-- ==== Sys2Proof/Word.lean ====
section
/-!
DEFINITION. The bit vectors of the block, named as the spec names them. Every quantity is unsigned (00_scope.md R8).
-/
namespace Sys2Proof

/-- The 5-bit command word `op[2:0] ‖ a ‖ b` (30_encoding.md R56): bits 4..2 are `op`, bit 1 is `a`, bit 0 is `b`. -/
abbrev CmdWord := BitVec 5

/-- The frame buffer `Frame[0..25]` (R8, R11): bit `i` is `Frame[i]`, the bit received `i`-th after the last reset. -/
abbrev FrameBits := BitVec 26

/-- The key burst `Frame[0..7]` (R44): bit `k` is `Frame[k]`. -/
abbrev Burst := BitVec 8

/-- A key value (R45): 0..15, or the sentinel. -/
abbrev KeyValue := BitVec 8

/-- A clock value or a time difference in milliseconds, `TS_WIDTH` = 32 bits (R18, R51). -/
abbrev Millis := BitVec 32

/-- The StateFlags byte (R15, R46). -/
abbrev FlagsByte := BitVec 8

/-- A 24-bit payload or submitted code (R42, R47). -/
abbrev Payload := BitVec 24

/-- A byte of a code word as `opcode_table.json` numbers its bits. -/
abbrev Byte := BitVec 8

end Sys2Proof
end

