-- ==== Sys2Proof/Machine/Flags.lean ====
section
/-!
DEFINITION. The StateFlags byte (10_state.md R15, 30_encoding.md R46): the eight flags, their positions, setting one and
reading one. The positions are the spec's decision D2 (log entry 9).
-/
namespace Sys2Proof.Machine

/-- The eight flags, in the document's order (R15). -/
inductive Flag where
  | initialized
  | dataSent
  | connectionOk
  | logicFault
  | receiveTimeout
  | bitsFault
  | parityFirstFault
  | paritySecondFault
  deriving DecidableEq, Repr

/-- The bit of the byte that holds a flag (R15, R46). -/
def flagPosition : Flag → Nat
  | .initialized => 0
  | .dataSent => 1
  | .connectionOk => 2
  | .logicFault => 3
  | .receiveTimeout => 4
  | .bitsFault => 5
  | .parityFirstFault => 6
  | .paritySecondFault => 7

/-- The mask of a flag (R15). -/
def flagMask (f : Flag) : FlagsByte :=
  1 <<< flagPosition f

/-- `Flags.Name <- 1` (R8): set one flag, the others unchanged. -/
def setFlagBit (f : Flag) (b : FlagsByte) : FlagsByte :=
  b ||| flagMask f

/-- `Flags.Name` (R8): read one flag. -/
def hasFlag (f : Flag) (b : FlagsByte) : Bool :=
  b.getLsbD (flagPosition f)

/-- ConnectionOk as a reset step samples it (R124): both lines read idle-high. -/
def linesIdle (rA rB : Bool) : Bool :=
  rA && rB

/-- The flags a reset step leaves (R124): Initialized always, ConnectionOk iff both lines read idle-high. -/
def freshFlags (rA rB : Bool) : FlagsByte :=
  if linesIdle rA rB then flagMask .initialized ||| flagMask .connectionOk else flagMask .initialized

end Sys2Proof.Machine
end

