-- ==== Sys2Proof/Config.lean ====
section
/-!
DEFINITION. The constants the spec fixes for the block (00_scope.md R7), under the spec's names.

No value of the spec is left free for an implementation in this model: the parameters that the spec marks as its own
decisions (D2, D4, D5, D7, D12, D17) stand here, in `Decode.lean` (`keyDecode`) and in `Machine/Flags.lean` (the flag
positions) with the defaults the spec gives them. See the assumption log, entries 5 to 9.
-/
namespace Sys2Proof.Config

/-- `FRAME_LEN` (R7): the frame buffer holds 26 bits. -/
def frameLen : Nat := 26

/-- `KEY_LEN` (R7): a key burst is 8 bits. -/
def keyLen : Nat := 8

/-- `FRAME_GAP_MS` (R7, R74): a silence of more than 20 ms ends a frame in progress. -/
def frameGapMs : BitVec 32 := 20

/-- `KEY_IDLE_MS` (R7, R74): a silence of more than 5000 ms drops the code being entered. -/
def keyIdleMs : BitVec 32 := 5000

/-- `SUBMIT` (R7, R45): the key value that submits the accumulated code. -/
def submitValue : BitVec 8 := 11

/-- The largest key value that is a decimal digit (R45). -/
def lastDigit : BitVec 8 := 9

/-- `CODE_MAX` (R7, R105): the largest code that a submit dispatches. -/
def codeMax : BitVec 32 := 0xFFFFFF

/-- `KEY_NONE` (R7, D7): the value a disagreeing key burst decodes to. -/
def keyNone : BitVec 8 := 0xFF

end Sys2Proof.Config
end

