-- ==== Sys2Proof/Syntax.lean ====
section
/-!
DEFINITION. The instructions: one constructor per row of `spec/opcode_table.json`.

The block is not a processor. Its instructions are the operations of its interface (format CMD, 30_encoding.md R50, R56)
and the two data encodings that it decodes out of its own frame buffer in the course of a BIT operation: the key burst
(format KEY8, R44, R45) and the card frame (format FRAME26, R42). The side operands `now`, `rA`, `rB`, `cfg` travel beside
the command word and are not part of it (R56): they are `Machine.Inputs`.
-/
namespace Sys2Proof

/-- The three formats of the opcode table (its column "format"). -/
inductive Format where
  | cmd
  | key8
  | frame26
  deriving DecidableEq, Repr

/-- A code word of each format, its bits numbered as the opcode table numbers them: the leftmost character of the row's
pattern is the most significant bit. For KEY8 and FRAME26 that leftmost character is `Frame[0]`, the first bit received. -/
inductive CodeWord where
  | cmd (w : BitVec 5)
  | key8 (w : BitVec 8)
  | frame26 (w : BitVec 26)
  deriving DecidableEq, Repr

/-- Why a list of bytes is no code word of a format. -/
inductive DecodeError where
  /-- The format takes another number of bytes. -/
  | wrongLength (f : Format)
  /-- A bit above the format's width is set. -/
  | strayBits (f : Format)
  deriving DecidableEq, Repr

/-- One constructor per row of the opcode table. -/
inductive Instr where
  /-- INIT, CMD `000xx` (70_reset_and_hazards.md R160). -/
  | init
  /-- BIT.0, CMD `00110`: line A alone asserted (40_bit_sampler_framebuffer.md R60, R62). -/
  | bit0
  /-- BIT.1, CMD `00101`: line B alone asserted (R60, R62). -/
  | bit1
  /-- BIT.BOTH, CMD `00111`: both lines asserted (R60, R63). -/
  | bitBoth
  /-- BIT.NONE, CMD `00100`: neither line asserted (R60, R63). -/
  | bitNone
  /-- TICK, CMD `010xx`: the timeout check (41_timeout_monitor.md R75). -/
  | tick
  /-- QUERY, CMD `011xx`: the state query (45_stateflags_notification.md R127). -/
  | query
  /-- RESET, CMD `100xx`: the explicit reset (R126). -/
  | reset
  /-- RESERVED.5, CMD `101xx` (30_encoding.md R52). -/
  | reserved5
  /-- RESERVED.6, CMD `110xx` (R52). -/
  | reserved6
  /-- RESERVED.7, CMD `111xx` (R52). -/
  | reserved7
  /-- KEY.0, KEY8 `00000000` (44_keycode_fsm.md R104). -/
  | key0
  /-- KEY.1, KEY8 `10001000` (R104). -/
  | key1
  /-- KEY.2, KEY8 `01000100` (R104). -/
  | key2
  /-- KEY.3, KEY8 `11001100` (R104). -/
  | key3
  /-- KEY.4, KEY8 `00100010` (R104). -/
  | key4
  /-- KEY.5, KEY8 `10101010` (R104). -/
  | key5
  /-- KEY.6, KEY8 `01100110` (R104). -/
  | key6
  /-- KEY.7, KEY8 `11101110` (R104). -/
  | key7
  /-- KEY.8, KEY8 `00010001` (R104). -/
  | key8
  /-- KEY.9, KEY8 `10011001` (R104). -/
  | key9
  /-- KEY.IGNORED.10, KEY8 `01010101` (R108). -/
  | keyIgnored10
  /-- KEY.SUBMIT, KEY8 `11011101` (R105). -/
  | keySubmit
  /-- KEY.IGNORED.12, KEY8 `00110011` (R108). -/
  | keyIgnored12
  /-- KEY.IGNORED.13, KEY8 `10111011` (R108). -/
  | keyIgnored13
  /-- KEY.IGNORED.14, KEY8 `01110111` (R108). -/
  | keyIgnored14
  /-- KEY.IGNORED.15, KEY8 `11111111` (R108). -/
  | keyIgnored15
  /-- KEY.MISMATCH, KEY8 `aaaabbbb` with `aaaa ≠ bbbb` (R108). `n1` is the value of window 1, `Frame[0..3]`, and `n2` the value
  of window 2, `Frame[4..7]`, the earlier received bit weighing less (R44). -/
  | keyMismatch (n1 n2 : BitVec 4)
  /-- FRAME26, `pddddddddddddddddddddddddq`: a received card frame (30_encoding.md R42; 42_parity_validator.md R80). `p` is
  `Frame[0]`, bit `i` of `d` is `Frame[i + 1]`, `q` is `Frame[25]`. -/
  | frame26 (p : Bool) (d : BitVec 24) (q : Bool)
  deriving DecidableEq, Repr

end Sys2Proof
end

