-- ==== Sys2Proof/WellFormed.lean ====
section
/-!
DEFINITION. Which instructions the opcode table's rows admit, and which code words each row admits.
-/
namespace Sys2Proof

/-- The one condition a row puts on its fields: KEY.MISMATCH stands for the 240 bursts whose windows differ (R45). -/
def Instr.wf : Instr → Bool
  | .init => true
  | .bit0 => true
  | .bit1 => true
  | .bitBoth => true
  | .bitNone => true
  | .tick => true
  | .query => true
  | .reset => true
  | .reserved5 => true
  | .reserved6 => true
  | .reserved7 => true
  | .key0 => true
  | .key1 => true
  | .key2 => true
  | .key3 => true
  | .key4 => true
  | .key5 => true
  | .key6 => true
  | .key7 => true
  | .key8 => true
  | .key9 => true
  | .keyIgnored10 => true
  | .keySubmit => true
  | .keyIgnored12 => true
  | .keyIgnored13 => true
  | .keyIgnored14 => true
  | .keyIgnored15 => true
  | .keyMismatch n1 n2 => n1 != n2
  | .frame26 _ _ _ => true

/-- A CMD row of the table: its columns "mask" and "match" (30_encoding.md R56). -/
def cmdRow (mask pattern : BitVec 5) : CodeWord → Bool
  | .cmd w => w &&& mask == pattern
  | .key8 _ => false
  | .frame26 _ => false

/-- A KEY8 row of the table that is one pattern (R45). -/
def keyPatternRow (pattern : BitVec 8) : CodeWord → Bool
  | .cmd _ => false
  | .key8 w => w == pattern
  | .frame26 _ => false

/-- The row KEY.MISMATCH, `aaaabbbb`, with the windows' values `n1` and `n2` (R44): the leftmost character is `Frame[0]` and
weighs least in its window. -/
def keyMismatchRow (n1 n2 : BitVec 4) : CodeWord → Bool
  | .cmd _ => false
  | .key8 w =>
    w.getLsbD 7 == n1.getLsbD 0 && w.getLsbD 6 == n1.getLsbD 1 && w.getLsbD 5 == n1.getLsbD 2 && w.getLsbD 4 == n1.getLsbD 3 &&
    w.getLsbD 3 == n2.getLsbD 0 && w.getLsbD 2 == n2.getLsbD 1 && w.getLsbD 1 == n2.getLsbD 2 && w.getLsbD 0 == n2.getLsbD 3
  | .frame26 _ => false

/-- The row FRAME26, `pdd…dq` (R42): the leftmost character is `p`, the next is bit 0 of the payload, the last is `q`. -/
def frameRow (p : Bool) (d : BitVec 24) (q : Bool) : CodeWord → Bool
  | .cmd _ => false
  | .key8 _ => false
  | .frame26 w =>
    w.getLsbD 25 == p && (List.range 24).all (fun i => w.getLsbD (24 - i) == d.getLsbD i) && w.getLsbD 0 == q

/-- Whether a code word is one that the instruction's row of `spec/opcode_table.json` admits. -/
def Instr.row : Instr → CodeWord → Bool
  | .init => cmdRow 0x1C 0x00
  | .bit0 => cmdRow 0x1F 0x06
  | .bit1 => cmdRow 0x1F 0x05
  | .bitBoth => cmdRow 0x1F 0x07
  | .bitNone => cmdRow 0x1F 0x04
  | .tick => cmdRow 0x1C 0x08
  | .query => cmdRow 0x1C 0x0C
  | .reset => cmdRow 0x1C 0x10
  | .reserved5 => cmdRow 0x1C 0x14
  | .reserved6 => cmdRow 0x1C 0x18
  | .reserved7 => cmdRow 0x1C 0x1C
  | .key0 => keyPatternRow 0b00000000
  | .key1 => keyPatternRow 0b10001000
  | .key2 => keyPatternRow 0b01000100
  | .key3 => keyPatternRow 0b11001100
  | .key4 => keyPatternRow 0b00100010
  | .key5 => keyPatternRow 0b10101010
  | .key6 => keyPatternRow 0b01100110
  | .key7 => keyPatternRow 0b11101110
  | .key8 => keyPatternRow 0b00010001
  | .key9 => keyPatternRow 0b10011001
  | .keyIgnored10 => keyPatternRow 0b01010101
  | .keySubmit => keyPatternRow 0b11011101
  | .keyIgnored12 => keyPatternRow 0b00110011
  | .keyIgnored13 => keyPatternRow 0b10111011
  | .keyIgnored14 => keyPatternRow 0b01110111
  | .keyIgnored15 => keyPatternRow 0b11111111
  | .keyMismatch n1 n2 => keyMismatchRow n1 n2
  | .frame26 p d q => frameRow p d q

end Sys2Proof
end

