-- ==== Sys2Proof/Decode.lean ====
section
/-!
DEFINITION. From code words to instructions and back (30_encoding.md R41, R42, R44, R45, R52, R56).

`decode` is total: every CMD word, every KEY8 burst and every 26-bit frame is a row of the opcode table (R45, R53).
`decodeBytes` is total on any bytes and rejects by name. `encode` is written from the same patterns of the spec.
-/
namespace Sys2Proof

/-- The default `KeyDecode` (44_keycode_fsm.md R101, decision D7): two disjoint 4-bit windows, the earlier bit weighing
less, that must be equal. UNVERIFIED: an OPEN parameter of the spec, taken with the spec's default (log entry 5). -/
def keyDecode (f : Burst) : KeyValue :=
  if f.extractLsb' 0 4 = f.extractLsb' 4 4 then (f.extractLsb' 0 4).setWidth 8 else Config.keyNone

/-- The row of a CMD word `op ‖ a ‖ b` (R56); `a` and `b` are don't-care but for BIT. -/
def decodeCmd (w : BitVec 5) : Instr :=
  match (w.extractLsb' 2 3).toNat with
  | 0 => .init
  | 1 =>
    match w.getLsbD 1, w.getLsbD 0 with
    | true, false => .bit0
    | false, true => .bit1
    | true, true => .bitBoth
    | false, false => .bitNone
  | 2 => .tick
  | 3 => .query
  | 4 => .reset
  | 5 => .reserved5
  | 6 => .reserved6
  | _ => .reserved7

/-- The row that a key value selects (R45); `f` is the burst, for the fields of KEY.MISMATCH. -/
def keyRow (f : Burst) (v : KeyValue) : Instr :=
  match v.toNat with
  | 0 => .key0
  | 1 => .key1
  | 2 => .key2
  | 3 => .key3
  | 4 => .key4
  | 5 => .key5
  | 6 => .key6
  | 7 => .key7
  | 8 => .key8
  | 9 => .key9
  | 10 => .keyIgnored10
  | 11 => .keySubmit
  | 12 => .keyIgnored12
  | 13 => .keyIgnored13
  | 14 => .keyIgnored14
  | 15 => .keyIgnored15
  | _ => .keyMismatch (f.extractLsb' 0 4) (f.extractLsb' 4 4)

/-- The row of a KEY8 pattern, whose leftmost (most significant) bit is `Frame[0]` (R44, R45). -/
def decodeKey8 (w : BitVec 8) : Instr :=
  keyRow w.reverse (keyDecode w.reverse)

/-- The fields of a FRAME26 pattern, whose leftmost (most significant) bit is `Frame[0]` (R42). -/
def decodeFrame26 (w : BitVec 26) : Instr :=
  .frame26 (w.reverse.getLsbD 0) (w.reverse.extractLsb' 1 24) (w.reverse.getLsbD 25)

/-- The instruction a code word stands for. -/
def decode : CodeWord → Instr
  | .cmd w => decodeCmd w
  | .key8 w => decodeKey8 w
  | .frame26 w => decodeFrame26 w

/-- The number that bytes spell, the first byte the least significant (as `opcode_table.json` numbers bits). -/
def bytesToNat : List Byte → Nat
  | [] => 0
  | b :: bs => b.toNat + 256 * bytesToNat bs

/-- The code word of a format that bytes spell: one byte for CMD and KEY8, four for FRAME26, no bit above the width. -/
def codeOfBytes (f : Format) (bytes : List Byte) : Except DecodeError CodeWord :=
  match f with
  | .cmd =>
    if bytes.length = 1 then
      if bytesToNat bytes < 2 ^ 5 then .ok (.cmd (BitVec.ofNat 5 (bytesToNat bytes))) else .error (.strayBits .cmd)
    else .error (.wrongLength .cmd)
  | .key8 =>
    if bytes.length = 1 then .ok (.key8 (BitVec.ofNat 8 (bytesToNat bytes))) else .error (.wrongLength .key8)
  | .frame26 =>
    if bytes.length = 4 then
      if bytesToNat bytes < 2 ^ 26 then .ok (.frame26 (BitVec.ofNat 26 (bytesToNat bytes)))
      else .error (.strayBits .frame26)
    else .error (.wrongLength .frame26)

/-- The decoder on bytes: total, and every refusal has a name. -/
def decodeBytes (f : Format) (bytes : List Byte) : Except DecodeError Instr :=
  (codeOfBytes f bytes).map decode

/-- The code word that a row's bits `w` spell, when the row's format is not told. A row of the table has one of three
widths: 5 bits (CMD) and 8 bits (KEY8) are both one byte, 26 bits (FRAME26) are four. A byte below 32 is read as a CMD word,
any other as a KEY8 pattern; the one exception is `0x11`, the pattern of KEY.8, whose CMD reading is only RESET's spelling
with the don't-care bit `b` set. The byte 0 is both INIT and KEY.0, and is read as INIT. Two bytes are a KEY8 row to which
the reader of the table gave a bit above its eight (its column "fields"); that bit is no part of the pattern.
DESIGN CHOICE (log entry 4). The machine itself never guesses: `Machine.fetch` knows the format of what it reads. -/
def tableCode (nbits w : Nat) : Option CodeWord :=
  if nbits ≤ 5 then
    if w < 2 ^ 5 then some (.cmd (BitVec.ofNat 5 w)) else none
  else if nbits ≤ 8 then
    if w < 2 ^ 5 ∧ w ≠ 0x11 then some (.cmd (BitVec.ofNat 5 w))
    else if w < 2 ^ 8 then some (.key8 (BitVec.ofNat 8 w))
    else none
  else if nbits ≤ 16 then
    some (.key8 (BitVec.ofNat 8 w))
  else if nbits ≤ 32 then
    if w < 2 ^ 26 then some (.frame26 (BitVec.ofNat 26 w)) else none
  else none

/-- The instruction this decoder reads from an opcode-table word (see `tableCode`). -/
def decodeTableWord (nbits w : Nat) : Option Instr :=
  (tableCode nbits w).map decode

/-- The burst whose two windows hold `n1` and `n2` (R44): `Frame[0..3]` is `n1`, `Frame[4..7]` is `n2`. -/
def burstOf (n1 n2 : BitVec 4) : Burst :=
  n2 ++ n1

/-- The frame with leading parity `p`, payload `d` and trailing parity `q` (R42): `Frame[0]` = `p`,
`Frame[i + 1]` = bit `i` of `d`, `Frame[25]` = `q`. -/
def frameOf (p : Bool) (d : BitVec 24) (q : Bool) : FrameBits :=
  BitVec.ofBool q ++ d ++ BitVec.ofBool p

/-- The code word of an instruction, its don't-care bits 0 (R42, R45, R56). -/
def encode : Instr → CodeWord
  | .init => .cmd 0b00000
  | .bit0 => .cmd 0b00110
  | .bit1 => .cmd 0b00101
  | .bitBoth => .cmd 0b00111
  | .bitNone => .cmd 0b00100
  | .tick => .cmd 0b01000
  | .query => .cmd 0b01100
  | .reset => .cmd 0b10000
  | .reserved5 => .cmd 0b10100
  | .reserved6 => .cmd 0b11000
  | .reserved7 => .cmd 0b11100
  | .key0 => .key8 0b00000000
  | .key1 => .key8 0b10001000
  | .key2 => .key8 0b01000100
  | .key3 => .key8 0b11001100
  | .key4 => .key8 0b00100010
  | .key5 => .key8 0b10101010
  | .key6 => .key8 0b01100110
  | .key7 => .key8 0b11101110
  | .key8 => .key8 0b00010001
  | .key9 => .key8 0b10011001
  | .keyIgnored10 => .key8 0b01010101
  | .keySubmit => .key8 0b11011101
  | .keyIgnored12 => .key8 0b00110011
  | .keyIgnored13 => .key8 0b10111011
  | .keyIgnored14 => .key8 0b01110111
  | .keyIgnored15 => .key8 0b11111111
  | .keyMismatch n1 n2 => .key8 (burstOf n1 n2).reverse
  | .frame26 p d q => .frame26 (frameOf p d q).reverse

end Sys2Proof
end

