-- ==== Sys2Proof/Machine/State.lean ====
section
/-!
DEFINITION. The state of the block (10_state.md R10 to R25), its inputs and its output events, as plain data.

The ten elements of R10 come first. The last four fields are the MODEL's own: a step of `Host.Core` takes nothing but a
state, so what the environment gives an operation (R21, R51) and what the operation gives the environment (R38, R144) are
held beside the block's own state (log entries 1, 2, 6 and 10).
-/
namespace Sys2Proof.Machine

/-- The side operands of an operation (30_encoding.md R51). -/
structure Inputs where
  /-- The clock provider's monotonic millisecond timestamp. -/
  now : Millis
  /-- The level of line A as the reset step reads it: `true` is high, idle (R40, R51, D10). -/
  rA : Bool
  /-- The level of line B as the reset step reads it. -/
  rB : Bool
  /-- The configuration input of INIT: bit 0 AlwaysSendState, bit 1 ByteReorder, bit 2 KeypadEnable. -/
  cfg : BitVec 3
  deriving DecidableEq, Repr

/-- One operation requested by the environment: the command word and, beside it, the side operands (R51, R56). -/
structure Request where
  cmd : BitVec 5
  inputs : Inputs
  deriving DecidableEq, Repr

/-- An output event `(channel, value)` of an operation (R38, R47, R144). -/
inductive Event where
  /-- `Digit`, 0..9. -/
  | digit (v : BitVec 4)
  /-- `Code`, 1..0xFFFFFF. -/
  | code (v : BitVec 24)
  /-- `Data`, 24 bits. -/
  | data (v : BitVec 24)
  /-- `State`, the StateFlags byte. -/
  | state (v : BitVec 8)
  deriving DecidableEq, Repr

/-- `Config` (R20), fixed at initialization. -/
structure Configuration where
  alwaysSendState : Bool
  byteReorder : Bool
  keypadEnable : Bool
  deriving DecidableEq, Repr

/-- The state of the block. -/
structure State where
  /-- `Frame[0..25]` (R11): bit `i` is `Frame[i]`. -/
  frame : BitVec 26
  /-- `BitCount` (R12), five bits: bits appended since the last reset. -/
  bitCount : BitVec 5
  /-- `KeyBitCount` (R13), four bits. -/
  keyBitCount : BitVec 4
  /-- `AccumulatedCode` (R14), `ACC_WIDTH` = 32 bits. -/
  accumulatedCode : BitVec 32
  /-- `Flags` (R15): the live StateFlags byte. -/
  flags : BitVec 8
  /-- `Snapshot` (R16): the flags byte most recently emitted by a notify step. -/
  snapshot : BitVec 8
  /-- `FirstPending` (R17): no notify step has emitted since INIT. -/
  firstPending : Bool
  /-- `LastTimestamp` (R18): `now` at the most recent BIT. -/
  lastTimestamp : BitVec 32
  /-- `Elapsed` (R19): the time difference of the most recent BIT or TICK. -/
  elapsed : BitVec 32
  /-- `Config` (R20). -/
  config : Configuration
  /-- MODEL: INIT has been performed (R162); before it no other operation has a meaning. -/
  initialised : Bool
  /-- MODEL: the side operands of the operation in progress, or of the last one. -/
  inputs : Inputs
  /-- MODEL: the operations the environment has yet to issue, the next one first: the rest of the trace (R35). -/
  trace : List Request
  /-- MODEL: the output list of the last operation, in order (R38). -/
  outputs : List Event
  deriving DecidableEq, Repr

/-- Nothing in the block is a fault: every anomaly is a flag and every operation is total (60_exceptions.md R140). The type
is empty, so no step can end in one. -/
inductive Fault
  deriving DecidableEq, Repr

/-- Why a step has no next state. The spec names these as the only refusals there are (R140). -/
inductive Refusal where
  /-- Raised by the dispatch for an instruction without a meaning. No arm of this model raises it. Safe. -/
  | notModelled (mnemonic : String)
  /-- Raised by every instruction but INIT and the reserved selectors while INIT has not been performed: the state is
  unspecified and the operation has no meaning (R162, U3). Safe: the model stops where the spec gives no meaning. -/
  | beforeInit
  /-- Raised by the reserved selectors 5, 6 and 7 (R52, U4). Safe: the spec refuses them. -/
  | reservedSelector (op : BitVec 3)
  deriving DecidableEq, Repr

/-- The state right after a hardware reset, which performs INIT (R160, R161) with `cfg` = 000 and both lines high: the
table of R25, with `Flags` = 0x05. The spec makes `cfg` and the two levels inputs of the reset; taking them 000 and high is
a DESIGN CHOICE (log entry 6), and so are the values of the model's own fields: no operation requested yet, no output. -/
def State.reset : State where
  frame := 0
  bitCount := 0
  keyBitCount := 0
  accumulatedCode := 0
  flags := 0x05
  snapshot := 0x00
  firstPending := true
  lastTimestamp := 0
  elapsed := 0
  config := { alwaysSendState := false, byteReorder := false, keypadEnable := false }
  initialised := true
  inputs := { now := 0, rA := true, rB := true, cfg := 0 }
  trace := []
  outputs := []

end Sys2Proof.Machine
end

