-- ==== Sys2Proof/Machine/Operands.lean ====
section
/-!
DEFINITION. The values the operations compute with: bits of the frame buffer, parities, the payload, the configuration
input, time differences, the decimal step, and what the state means (R107, glossary R9).
-/
namespace Sys2Proof.Machine

/-- A line is asserted when it is not at its idle level, high (30_encoding.md R40). -/
def asserted (level : Bool) : Bool :=
  !level

/-- `Frame[i]` (R8). -/
def frameBit (f : FrameBits) (i : Nat) : Bool :=
  f.getLsbD i

/-- `Frame[i] <- b` (R8). An index outside 0..25 writes nothing; no rule produces one (R62). -/
def setFrameBit (f : FrameBits) (i : Nat) (b : Bool) : FrameBits :=
  if b then f ||| BitVec.twoPow 26 i else f &&& ~~~BitVec.twoPow 26 i

/-- `xor(Frame[lo .. lo + n − 1])` (R8): true when an odd number of the positions hold 1. -/
def xorFrom (f : FrameBits) (lo : Nat) : Nat → Bool
  | 0 => false
  | n + 1 => xorFrom f lo n ^^ frameBit f (lo + n)

/-- The parity of the first half, indices 0..12 (R81). -/
def firstHalfParity (f : FrameBits) : Bool :=
  xorFrom f 0 13

/-- The parity of the second half, indices 13..25 (R81). -/
def secondHalfParity (f : FrameBits) : Bool :=
  xorFrom f 13 13

/-- Extract (R90): bit at frame index `i` is value bit `i − 1`, for `i` = 1..24. -/
def payloadOf (f : FrameBits) : Payload :=
  f.extractLsb' 1 24

/-- Reorder (R91): with ByteReorder the lowest and the highest byte change places. -/
def reorder (byteReorder : Bool) (v : Payload) : Payload :=
  if byteReorder then v.extractLsb' 0 8 ++ v.extractLsb' 8 8 ++ v.extractLsb' 16 8 else v

/-- `Frame[0..7]` (R44). -/
def burstBits (f : FrameBits) : Burst :=
  f.extractLsb' 0 8

/-- The configuration that the `cfg` input spells (R51, R160). -/
def configOf (cfg : BitVec 3) : Configuration where
  alwaysSendState := cfg.getLsbD 0
  byteReorder := cfg.getLsbD 1
  keypadEnable := cfg.getLsbD 2

/-- `(now − LastTimestamp) mod 2^32` (R70). -/
def elapsedSince (last now : Millis) : Millis :=
  now - last

/-- `(AccumulatedCode · 10 + v) mod 2^32` (R104). -/
def decimalStep (acc : BitVec 32) (v : BitVec 4) : BitVec 32 :=
  acc * 10 + v.setWidth 32

/-- A submit dispatches a code that is nonzero and at most `CODE_MAX` (R105). -/
def dispatchable (acc : BitVec 32) : Bool :=
  decide (acc ≠ 0) && decide (acc ≤ Config.codeMax)

/-- The state of the KeyCodeFSM (44_keycode_fsm.md R107). -/
inductive KeyFsm where
  | idle
  | accumulating
  deriving DecidableEq, Repr

/-- The KeyCodeFSM's state is a function of AccumulatedCode (R14, R107). -/
def keyFsm (s : State) : KeyFsm :=
  if s.accumulatedCode = 0 then .idle else .accumulating

/-- The framer is Idle when it holds no bit (R9, R66). -/
def framerIdle (s : State) : Bool :=
  s.bitCount == 0

/-- The key step is due (R60 step 5): `KeypadEnable` = 1 and `KeyBitCount` = 8. It is so only inside a BIT operation. -/
def keyDue (s : State) : Bool :=
  s.config.keypadEnable && s.keyBitCount == 8

/-- The full-frame completion is due (R60 step 6): `BitCount` = 26. It is so only inside a BIT operation. -/
def frameDue (s : State) : Bool :=
  s.bitCount == 26

end Sys2Proof.Machine
end

