-- ==== Sys2Proof/Machine/Ops.lean ====
section
/-!
DEFINITION. The operations that several rules share: emitting an event, setting a flag, and the end of a cycle.

The block takes no exception and returns from none (60_exceptions.md R140, R148). What stands in for taking one is the end of
a cycle (R146): the reset procedure, notify step and then reset step, one shared operation `resetProc` that every rule that
ends a cycle calls. What stands in for a return is nothing: the block is Idle and awaits the next operation (R148).
-/
namespace Sys2Proof.Machine

/-- The operation `f` once INIT has been performed; before it, no meaning (R162, U3). -/
def ready (f : State → State) (s : State) : Host.Outcome State Fault Refusal :=
  if s.initialised then .next (f s) else .refused .beforeInit

/-- `emit Chan(v)` (R8): append the event to the operation's output list. It happens whether or not a consumer listens
(R144, D11). -/
def emit (e : Event) (s : State) : State :=
  { s with outputs := s.outputs ++ [e] }

/-- `Flags.Name <- 1` (R8, R120). -/
def setFlag (f : Flag) (s : State) : State :=
  { s with flags := setFlagBit f s.flags }

/-- The condition under which a notify step emits (R123). -/
def notifies (s : State) : Bool :=
  s.firstPending || s.flags != s.snapshot || s.config.alwaysSendState

/-- NotifyStep (R123). -/
def notifyStep (s : State) : State :=
  if notifies s then
    { emit (.state s.flags) s with snapshot := s.flags, flags := 0x00, firstPending := false }
  else s

/-- ResetStep (R124). -/
def resetStep (rA rB : Bool) (s : State) : State :=
  { s with frame := 0, bitCount := 0, keyBitCount := 0, flags := freshFlags rA rB }

/-- ResetProc (R122): the end of a cycle. -/
def resetProc (rA rB : Bool) (s : State) : State :=
  resetStep rA rB (notifyStep s)

end Sys2Proof.Machine
end

