-- ==== Sys2Proof/Machine/Keypad.lean ====
section
/-!
DEFINITION. KeyCodeFSM (44_keycode_fsm.md): the key step, its actions, and the KEY rows.
-/
namespace Sys2Proof.Machine

/-- Digit (R104). -/
def enterDigit (v : BitVec 4) (s : State) : State :=
  setFlag .dataSent (emit (.digit v) { s with accumulatedCode := decimalStep s.accumulatedCode v })

/-- The dispatch of a submitted code (R105). -/
def dispatchCode (s : State) : State :=
  if dispatchable s.accumulatedCode then
    setFlag .dataSent (emit (.code (s.accumulatedCode.setWidth 24)) s)
  else s

/-- Submit (R105): AccumulatedCode is cleared unconditionally. -/
def submitCode (s : State) : State :=
  { dispatchCode s with accumulatedCode := 0 }

/-- The action that a key value selects (R45, R100): a digit or the submit sentinel, each followed by the forced reset (R106);
any other value changes nothing (R108). -/
def keyAction (v : KeyValue) (rA rB : Bool) (s : State) : State :=
  if v ≤ Config.lastDigit then resetProc rA rB (enterDigit (v.setWidth 4) s)
  else if v = Config.submitValue then resetProc rA rB (submitCode s)
  else s

/-- KeyStep (R100) over a decode function `decodeKey`, the parameter of decision D7. -/
def keyStep (decodeKey : Burst → KeyValue) (rA rB : Bool) (s : State) : State :=
  keyAction (decodeKey (burstBits s.frame)) rA rB s

/-- A key burst that decodes to `v` has been received: the action of `v`, where the keypad is enabled; with
`KeypadEnable` = 0 no key step ever runs and the eight bits are only bits of a frame (R54, R111). -/
def receivedKey (v : KeyValue) (s : State) : State :=
  if s.config.keypadEnable then keyAction v s.inputs.rA s.inputs.rB s else s

/-- KEY.0 (R104). -/
def execKey0 (s : State) : Host.Outcome State Fault Refusal :=
  ready (receivedKey 0) s

/-- KEY.1 (R104). -/
def execKey1 (s : State) : Host.Outcome State Fault Refusal :=
  ready (receivedKey 1) s

/-- KEY.2 (R104). -/
def execKey2 (s : State) : Host.Outcome State Fault Refusal :=
  ready (receivedKey 2) s

/-- KEY.3 (R104). -/
def execKey3 (s : State) : Host.Outcome State Fault Refusal :=
  ready (receivedKey 3) s

/-- KEY.4 (R104). -/
def execKey4 (s : State) : Host.Outcome State Fault Refusal :=
  ready (receivedKey 4) s

/-- KEY.5 (R104). -/
def execKey5 (s : State) : Host.Outcome State Fault Refusal :=
  ready (receivedKey 5) s

/-- KEY.6 (R104). -/
def execKey6 (s : State) : Host.Outcome State Fault Refusal :=
  ready (receivedKey 6) s

/-- KEY.7 (R104). -/
def execKey7 (s : State) : Host.Outcome State Fault Refusal :=
  ready (receivedKey 7) s

/-- KEY.8 (R104). -/
def execKey8 (s : State) : Host.Outcome State Fault Refusal :=
  ready (receivedKey 8) s

/-- KEY.9 (R104). -/
def execKey9 (s : State) : Host.Outcome State Fault Refusal :=
  ready (receivedKey 9) s

/-- KEY.IGNORED.10 (R108). -/
def execKeyIgnored10 (s : State) : Host.Outcome State Fault Refusal :=
  ready (receivedKey 10) s

/-- KEY.SUBMIT (R105). -/
def execKeySubmit (s : State) : Host.Outcome State Fault Refusal :=
  ready (receivedKey Config.submitValue) s

/-- KEY.IGNORED.12 (R108). -/
def execKeyIgnored12 (s : State) : Host.Outcome State Fault Refusal :=
  ready (receivedKey 12) s

/-- KEY.IGNORED.13 (R108). -/
def execKeyIgnored13 (s : State) : Host.Outcome State Fault Refusal :=
  ready (receivedKey 13) s

/-- KEY.IGNORED.14 (R108). -/
def execKeyIgnored14 (s : State) : Host.Outcome State Fault Refusal :=
  ready (receivedKey 14) s

/-- KEY.IGNORED.15 (R108). -/
def execKeyIgnored15 (s : State) : Host.Outcome State Fault Refusal :=
  ready (receivedKey 15) s

/-- KEY.MISMATCH (R108): the windows differ, the burst decodes to the sentinel, whatever the two windows hold. -/
def execKeyMismatch (_n1 _n2 : BitVec 4) (s : State) : Host.Outcome State Fault Refusal :=
  ready (receivedKey Config.keyNone) s

end Sys2Proof.Machine
end

