-- ==== Sys2Proof/Machine/CardFrame.lean ====
section
/-!
DEFINITION. ParityValidator and DataAligner (42_parity_validator.md, 43_data_aligner.md), and the FRAME26 row.
-/
namespace Sys2Proof.Machine

/-- The emission gate (R85): first half even, second half odd, and nothing else. -/
def paritiesGood (f : FrameBits) : Bool :=
  !firstHalfParity f && secondHalfParity f

/-- DataEmit (R93). -/
def dataEmit (s : State) : State :=
  { setFlag .dataSent (emit (.data (reorder s.config.byteReorder (payloadOf s.frame))) s) with accumulatedCode := 0 }

/-- The bit-count check (R82). -/
def checkBitCount (s : State) : State :=
  if s.bitCount ≠ 26 then setFlag .bitsFault s else s

/-- The first-half parity check (R83). -/
def checkFirstHalf (s : State) : State :=
  if firstHalfParity s.frame then setFlag .parityFirstFault s else s

/-- The second-half parity check (R84). -/
def checkSecondHalf (s : State) : State :=
  if secondHalfParity s.frame then s else setFlag .paritySecondFault s

/-- EmissionPass (R80): all three checks are made, none short-circuits another, then the gate (R85). -/
def emissionPass (s : State) : State :=
  let t := checkSecondHalf (checkFirstHalf (checkBitCount s))
  if paritiesGood t.frame then dataEmit t else t

/-- Full-frame completion (R60 step 6, R65): the emission pass, then the reset procedure whatever it found. -/
def completeFrame (rA rB : Bool) (s : State) : State :=
  resetProc rA rB (emissionPass s)

/-- A received card frame: all 26 bits are in the buffer and step 6 of the BIT that brought the last one runs (R42, R65). -/
def receivedFrame (p : Bool) (d : BitVec 24) (q : Bool) (s : State) : State :=
  completeFrame s.inputs.rA s.inputs.rB { s with frame := frameOf p d q, bitCount := 26 }

/-- FRAME26 (R42, R80, R65). -/
def execFrame26 (p : Bool) (d : BitVec 24) (q : Bool) (s : State) : Host.Outcome State Fault Refusal :=
  ready (receivedFrame p d q) s

end Sys2Proof.Machine
end

