-- ==== Sys2Proof/Machine/Timeout.lean ====
section
/-!
DEFINITION. TimeoutMonitor (41_timeout_monitor.md): time stamp, time check, TICK.
-/
namespace Sys2Proof.Machine

/-- TimeStamp (R70), run by BIT only. -/
def timeStamp (now : Millis) (s : State) : State :=
  { s with elapsed := elapsedSince s.lastTimestamp now, lastTimestamp := now }

/-- TICK's measure of the silence (R75): LastTimestamp is not written. -/
def measureSilence (now : Millis) (s : State) : State :=
  { s with elapsed := elapsedSince s.lastTimestamp now }

/-- KeyIdle (R72): strictly more than 5000 ms. -/
def keyIdle (s : State) : State :=
  if Config.keyIdleMs < s.elapsed then { s with accumulatedCode := 0 } else s

/-- The condition of the frame-gap timeout (R73): strictly more than 20 ms, with a frame in progress. -/
def gapExpired (s : State) : Bool :=
  decide (Config.frameGapMs < s.elapsed) && s.bitCount != 0

/-- FrameGap (R73): ReceiveTimeout, then the emission pass on the partial frame, then the reset procedure. -/
def frameGap (rA rB : Bool) (s : State) : State :=
  if gapExpired s then resetProc rA rB (emissionPass (setFlag .receiveTimeout s)) else s

/-- TimeCheck (R71): the key-idle rule, then the frame-gap rule. -/
def timeCheck (rA rB : Bool) (s : State) : State :=
  frameGap rA rB (keyIdle s)

/-- The TICK operation (R75). -/
def tickOperation (now : Millis) (rA rB : Bool) (s : State) : State :=
  timeCheck rA rB (measureSilence now s)

/-- TICK (R75). -/
def execTick (s : State) : Host.Outcome State Fault Refusal :=
  ready (fun s => tickOperation s.inputs.now s.inputs.rA s.inputs.rB s) s

end Sys2Proof.Machine
end

