-- ==== Sys2Proof/Machine/BitEvent.lean ====
section
/-!
DEFINITION. BitSampler and FrameBuffer (40_bit_sampler_framebuffer.md): the BIT operation and its four rows.
-/
namespace Sys2Proof.Machine

/-- Append (R62): write the position `BitCount`. -/
def append (b : Bool) (s : State) : State :=
  { s with frame := setFrameBit s.frame s.bitCount.toNat b }

/-- LogicFaultSlot (R63): the flag is set, the slot is not written. -/
def logicFaultSlot (s : State) : State :=
  setFlag .logicFault s

/-- The sampling of the line pair (R60 step 3, R41). -/
def sample (a b : Bool) (s : State) : State :=
  if a != b then append b s else logicFaultSlot s

/-- Count (R64). -/
def count (s : State) : State :=
  { s with
    bitCount := s.bitCount + 1
    keyBitCount := if s.config.keypadEnable then s.keyBitCount + 1 else s.keyBitCount }

/-- Step 5 of BIT (R60): at the 8th bit, `KeyBitCount` returns to 0 and the key step runs. -/
def keyPoint (decodeKey : Burst → KeyValue) (rA rB : Bool) (s : State) : State :=
  if keyDue s then keyStep decodeKey rA rB { s with keyBitCount := 0 } else s

/-- Step 6 of BIT (R60, R65): at the 26th bit, the emission pass and the reset procedure. -/
def framePoint (rA rB : Bool) (s : State) : State :=
  if frameDue s then completeFrame rA rB s else s

/-- The BIT operation (R60), its six steps in order, over a decode function (D7). -/
def bitOperation (decodeKey : Burst → KeyValue) (a b : Bool) (now : Millis) (rA rB : Bool) (s : State) : State :=
  framePoint rA rB (keyPoint decodeKey rA rB (count (sample a b (timeCheck rA rB (timeStamp now s)))))

/-- The BIT operation on the side operands of the state, with the default `KeyDecode` (R101). -/
def bitEvent (a b : Bool) (s : State) : State :=
  bitOperation keyDecode a b s.inputs.now s.inputs.rA s.inputs.rB s

/-- BIT.0 (R60, R62): line A alone. -/
def execBit0 (s : State) : Host.Outcome State Fault Refusal :=
  ready (bitEvent true false) s

/-- BIT.1 (R60, R62): line B alone. -/
def execBit1 (s : State) : Host.Outcome State Fault Refusal :=
  ready (bitEvent false true) s

/-- BIT.BOTH (R60, R63). -/
def execBitBoth (s : State) : Host.Outcome State Fault Refusal :=
  ready (bitEvent true true) s

/-- BIT.NONE (R60, R63). -/
def execBitNone (s : State) : Host.Outcome State Fault Refusal :=
  ready (bitEvent false false) s

end Sys2Proof.Machine
end

