-- ==== Sys2Proof/Machine/Control.lean ====
section
/-!
DEFINITION. INIT, QUERY, RESET and the reserved selectors (70_reset_and_hazards.md R160, 45_stateflags_notification.md R126,
R127, 30_encoding.md R52).
-/
namespace Sys2Proof.Machine

/-- The INIT operation (R160): every element is written, the reset step runs, the notify step does not. -/
def initOperation (cfg : BitVec 3) (rA rB : Bool) (s : State) : State :=
  resetStep rA rB
    { s with
      config := configOf cfg
      accumulatedCode := 0
      snapshot := 0x00
      firstPending := true
      lastTimestamp := 0
      elapsed := 0
      initialised := true }

/-- INIT (R160): defined from any prior state, the unspecified one before the first INIT included. -/
def execInit (s : State) : Host.Outcome State Fault Refusal :=
  .next (initOperation s.inputs.cfg s.inputs.rA s.inputs.rB s)

/-- QUERY (R127): emit the live flags, change nothing else. -/
def execQuery (s : State) : Host.Outcome State Fault Refusal :=
  ready (fun s => emit (.state s.flags) s) s

/-- RESET (R126): exactly the reset procedure. -/
def execReset (s : State) : Host.Outcome State Fault Refusal :=
  ready (fun s => resetProc s.inputs.rA s.inputs.rB s) s

/-- A reserved selector names no operation (R52). -/
def reservedOperation (op : BitVec 3) : Host.Outcome State Fault Refusal :=
  .refused (.reservedSelector op)

/-- RESERVED.5 (R52). -/
def execReserved5 (_s : State) : Host.Outcome State Fault Refusal :=
  reservedOperation 5

/-- RESERVED.6 (R52). -/
def execReserved6 (_s : State) : Host.Outcome State Fault Refusal :=
  reservedOperation 6

/-- RESERVED.7 (R52). -/
def execReserved7 (_s : State) : Host.Outcome State Fault Refusal :=
  reservedOperation 7

end Sys2Proof.Machine
end

