-- ==== Sys2Proof/Machine/Dispatch.lean ====
section
/-!
DEFINITION. One arm per constructor of Instr.
-/
namespace Sys2Proof.Machine

def exec (i : Instr) (s : State) : Host.Outcome State Fault Refusal :=
  match i with
  | .init => Sys2Proof.Machine.execInit s
  | .bit0 => Sys2Proof.Machine.execBit0 s
  | .bit1 => Sys2Proof.Machine.execBit1 s
  | .bitBoth => Sys2Proof.Machine.execBitBoth s
  | .bitNone => Sys2Proof.Machine.execBitNone s
  | .tick => Sys2Proof.Machine.execTick s
  | .query => Sys2Proof.Machine.execQuery s
  | .reset => Sys2Proof.Machine.execReset s
  | .reserved5 => Sys2Proof.Machine.execReserved5 s
  | .reserved6 => Sys2Proof.Machine.execReserved6 s
  | .reserved7 => Sys2Proof.Machine.execReserved7 s
  | .key0 => Sys2Proof.Machine.execKey0 s
  | .key1 => Sys2Proof.Machine.execKey1 s
  | .key2 => Sys2Proof.Machine.execKey2 s
  | .key3 => Sys2Proof.Machine.execKey3 s
  | .key4 => Sys2Proof.Machine.execKey4 s
  | .key5 => Sys2Proof.Machine.execKey5 s
  | .key6 => Sys2Proof.Machine.execKey6 s
  | .key7 => Sys2Proof.Machine.execKey7 s
  | .key8 => Sys2Proof.Machine.execKey8 s
  | .key9 => Sys2Proof.Machine.execKey9 s
  | .keyIgnored10 => Sys2Proof.Machine.execKeyIgnored10 s
  | .keySubmit => Sys2Proof.Machine.execKeySubmit s
  | .keyIgnored12 => Sys2Proof.Machine.execKeyIgnored12 s
  | .keyIgnored13 => Sys2Proof.Machine.execKeyIgnored13 s
  | .keyIgnored14 => Sys2Proof.Machine.execKeyIgnored14 s
  | .keyIgnored15 => Sys2Proof.Machine.execKeyIgnored15 s
  | .keyMismatch n1 n2 => Sys2Proof.Machine.execKeyMismatch n1 n2 s
  | .frame26 p d q => Sys2Proof.Machine.execFrame26 p d q s

end Sys2Proof.Machine
end

