-- ==== Sys2Proof/Machine/Fetch.lean ====
section
/-!
DEFINITION. Where the next instruction comes from, and how one is put there.

The block fetches nothing from a memory (10_state.md R24, 20_memory.md R37). The next operation is the one the environment
issues next, the head of the trace (R35). The data encodings KEY8 and FRAME26 are read from the frame buffer, and they are
due only inside a BIT operation: `execBit0` and its sisters run them there. A state in which one of them is still due is a BIT
operation that stands before its step 5 or 6; no operation leaves such a state behind (R23), and a step from it runs that
step of R60 (log entry 3).
-/
namespace Sys2Proof.Machine

/-- The next instruction and the state it runs in, if any. An operation begins with its own side operands and an empty
output list (R38). A due key burst is read with `KeyBitCount <- 0` (R60 step 5). -/
def fetch (s : State) : Option (Instr × State) :=
  if s.initialised && keyDue s then
    some (decode (.key8 (burstBits s.frame).reverse), { s with keyBitCount := 0 })
  else if s.initialised && frameDue s then
    some (decode (.frame26 s.frame.reverse), s)
  else
    match s.trace with
    | [] => none
    | r :: rest => some (decode (.cmd r.cmd), { s with trace := rest, inputs := r.inputs, outputs := [] })

/-- `s` with nothing due inside a BIT operation, so that the next operation is the trace's. -/
def betweenOperations (s : State) : State :=
  { s with
    keyBitCount := if keyDue s then 0 else s.keyBitCount
    bitCount := if frameDue s then 0 else s.bitCount }

/-- `f` with the burst `b` as its first eight bits. -/
def withBurst (f : FrameBits) (b : Burst) : FrameBits :=
  f.extractLsb' 8 18 ++ b

/-- `s` with the code word where the next step fetches it: a CMD word, its side operands all 0, at the head of the trace; a
key burst in `Frame[0..7]` of a block with the keypad enabled whose eighth bit has just been counted; a card frame in `Frame`
with its 26th bit just counted. -/
def placeCode (s : State) : CodeWord → State
  | .cmd w =>
    { betweenOperations s with
      trace := { cmd := w, inputs := { now := 0, rA := false, rB := false, cfg := 0 } } :: s.trace }
  | .key8 w =>
    { s with
      frame := withBurst s.frame w.reverse
      bitCount := 8
      keyBitCount := 8
      config := { s.config with keypadEnable := true }
      initialised := true }
  | .frame26 w =>
    { betweenOperations s with frame := w.reverse, bitCount := 26, initialised := true }

/-- `s` with an opcode-table word where the next step fetches it; `s` itself where the word is no code word. -/
def placeTableWord (s : State) (nbits w : Nat) : State :=
  match tableCode nbits w with
  | some c => placeCode s c
  | none => s

end Sys2Proof.Machine
end

