-- ==== Sys2Proof/Machine/Step.lean ====
section
/-!
DEFINITION. One step of the block: one operation of the environment, whole (20_memory.md R33, R35).
-/
namespace Sys2Proof.Machine

/-- Run the next instruction. Where the environment has issued no operation, the block awaits one and nothing changes
(60_exceptions.md R146, R148). -/
def step (s : State) : Host.Outcome State Fault Refusal :=
  match fetch s with
  | some (i, t) => exec i t
  | none => .next s

/-- `s` with an opcode-table word where `step` fetches its next instruction. -/
def State.withFetchWord (s : State) (nbits w : Nat) : State :=
  placeTableWord s nbits w

end Sys2Proof.Machine
end

