-- ==== Sys2Proof/Machine/Trace.lean ====
section
/-!
DEFINITION. The trace notation (30_encoding.md R55, decision D19): each line of a trace and the requests it stands for.
-/
namespace Sys2Proof.Machine

/-- The line pair of a bit event in the notation (R55): `A`/`0`, `B`/`1`, `AB`/`X`, `-`/`Z`. -/
inductive LinePair where
  | lineA
  | lineB
  | both
  | neither
  deriving DecidableEq, Repr

/-- A line of a trace (R55), with `lines=` written out. -/
inductive TraceLine where
  | init (always reorder keypad : Bool) (rA rB : Bool)
  | bit (p : LinePair) (now : BitVec 32) (rA rB : Bool)
  | tick (now : BitVec 32) (rA rB : Bool)
  | query
  | reset (rA rB : Bool)
  /-- `BITS <string> @<t0> +<dt>`: one BIT per character, `dt` milliseconds apart. -/
  | bits (ps : List LinePair) (t0 dt : BitVec 32) (rA rB : Bool)
  deriving DecidableEq, Repr

/-- The instruction of a line pair (R41). -/
def LinePair.instr : LinePair → Instr
  | .lineA => .bit0
  | .lineB => .bit1
  | .both => .bitBoth
  | .neither => .bitNone

/-- The CMD word of an instruction that is an operation (R56); a data encoding is none. -/
def cmdWord? (i : Instr) : Option (BitVec 5) :=
  match encode i with
  | .cmd w => some w
  | .key8 _ => none
  | .frame26 _ => none

/-- A request of the operation `i`; a data encoding is no operation and gives the empty list. -/
def requestOf (i : Instr) (inputs : Inputs) : List Request :=
  match cmdWord? i with
  | some w => [{ cmd := w, inputs := inputs }]
  | none => []

/-- The `cfg` input (R51): bit 0 AlwaysSendState, bit 1 ByteReorder, bit 2 KeypadEnable. -/
def cfgWord (always reorder keypad : Bool) : BitVec 3 :=
  BitVec.ofBool keypad ++ BitVec.ofBool reorder ++ BitVec.ofBool always

/-- The BIT requests of a `BITS` line (R55). -/
def bitRequests (dt : BitVec 32) (rA rB : Bool) : List LinePair → BitVec 32 → List Request
  | [], _ => []
  | p :: ps, t =>
    requestOf p.instr { now := t, rA := rA, rB := rB, cfg := 0 } ++ bitRequests dt rA rB ps (t + dt)

/-- The requests a line of a trace stands for (R55). An operand the operation does not take is 0. -/
def TraceLine.requests : TraceLine → List Request
  | .init always reorder keypad rA rB =>
    requestOf .init { now := 0, rA := rA, rB := rB, cfg := cfgWord always reorder keypad }
  | .bit p now rA rB => requestOf p.instr { now := now, rA := rA, rB := rB, cfg := 0 }
  | .tick now rA rB => requestOf .tick { now := now, rA := rA, rB := rB, cfg := 0 }
  | .query => requestOf .query { now := 0, rA := false, rB := false, cfg := 0 }
  | .reset rA rB => requestOf .reset { now := 0, rA := rA, rB := rB, cfg := 0 }
  | .bits ps t0 dt rA rB => bitRequests dt rA rB ps t0

end Sys2Proof.Machine
end

