-- ==== Sys2Proof/Safety.lean ====
section
/-!
DEFINITION. What the claims speak of: the invariants between operations, the requests that name an operation, what an
operation leaves alone, and what it can put on the output channels.
-/
namespace Sys2Proof.Machine

/-- The invariants that hold between operations, from INIT onward (10_state.md R23 (i) to (vii)). (viii) is a statement about
a history of operations, not about one state. -/
abbrev Inv (s : State) : Prop :=
  s.initialised = true ∧
  s.bitCount ≤ 25 ∧
  (∀ i : Fin 26, s.bitCount.toNat ≤ i.val → frameBit s.frame i.val = false) ∧
  s.keyBitCount = (if s.config.keypadEnable then BitVec.ofNat 4 (s.bitCount.toNat % 8) else 0) ∧
  hasFlag .initialized s.flags = true ∧
  hasFlag .receiveTimeout s.flags = false ∧
  hasFlag .bitsFault s.flags = false ∧
  hasFlag .parityFirstFault s.flags = false ∧
  hasFlag .paritySecondFault s.flags = false ∧
  (s.config.keypadEnable = false → s.accumulatedCode = 0) ∧
  hasFlag .dataSent s.flags = false

/-- The selector of a command word (R56). -/
def selectorOf (w : CmdWord) : BitVec 3 :=
  w.extractLsb' 2 3

/-- A request that names an operation: its selector is not reserved (R50, R52). -/
abbrev Legal (r : Request) : Prop :=
  selectorOf r.cmd ≤ 4

/-- What no operation but INIT writes (R20), and what no instruction writes of the model's own fields. -/
abbrev SameSetup (s t : State) : Prop :=
  t.config = s.config ∧ t.initialised = s.initialised ∧ t.inputs = s.inputs ∧ t.trace = s.trace

/-- A payload event (R38): one of `Digit`, `Code`, `Data`. -/
def isPayload : Event → Bool
  | .digit _ => true
  | .code _ => true
  | .data _ => true
  | .state _ => false

/-- The output lists of an operation (R38): empty, one event of any channel, or a payload event and then a `State`. -/
def outputShape : List Event → Bool
  | [] => true
  | [_] => true
  | [e, .state _] => isPayload e
  | _ => false

/-- The values that the channels can carry (R47): a digit is 0..9, a code is never 0; a code and a payload are 24 bits. -/
def channelValue : Event → Bool
  | .digit v => decide (v ≤ 9)
  | .code v => decide (v ≠ 0)
  | .data _ => true
  | .state _ => true

/-- The flags that the ways a cycle ends can add to Initialized, ConnectionOk and LogicFault (R125, R147). -/
def endingFlags : List FlagsByte :=
  [0x00, 0x02, 0x40, 0x80, 0xC0, 0x32, 0x70, 0xB0, 0xF0]

/-- The state bytes a notify step can emit (R147): `0x01 | c | l | e`. -/
def reportable (b : FlagsByte) : Bool :=
  [0x00, 0x04].any fun c => [0x00, 0x08].any fun l => endingFlags.any fun e => b == 0x01 ||| c ||| l ||| e

end Sys2Proof.Machine
end

