-- ==== Sys2Proof/Certificates/Slice0/Obligations.lean ====
section
/-!
DEFINITION. The statements for the provers, and the vocabulary they are written in.

The vocabulary says what the spec says in other words than the model does: parities by counting 1s (42_parity_validator.md
R86), the payload as a sum (43_data_aligner.md R90), the byte swap by division (R91), the end of a cycle as one list of
fields (45_stateflags_notification.md R122 to R124).
-/
namespace Sys2Proof.Claims

open Sys2Proof.Machine

/-- The number of 1s in `Frame[lo .. lo + n − 1]` (R86). -/
def ones (f : FrameBits) (lo n : Nat) : Nat :=
  ((List.range n).filter fun k => frameBit f (lo + k)).length

/-- The gate of R85 by counts (R86): an even number of 1s in indices 0..12, an odd number in 13..25. -/
def good (f : FrameBits) : Bool :=
  decide (ones f 0 13 % 2 = 0) && decide (ones f 13 13 % 2 = 1)

/-- The flags one emission pass sets (R86). -/
def passFlags (n : BitVec 5) (f : FrameBits) : FlagsByte :=
  (if n = 26 then 0x00 else 0x20) ||| (if ones f 0 13 % 2 = 1 then 0x40 else 0x00) |||
    (if ones f 13 13 % 2 = 0 then 0x80 else 0x00) ||| (if good f then 0x02 else 0x00)

/-- `Σ_{i=1..24} Frame[i] · 2^(i−1)` (R90). -/
def payloadSum (f : FrameBits) : Nat :=
  ((List.range 24).map fun i => if frameBit f (i + 1) then 2 ^ i else 0).sum

/-- The 24-bit number with its lowest and highest bytes exchanged (R91). -/
def swapBytes (n : Nat) : Nat :=
  n % 256 * 65536 + n / 256 % 256 * 256 + n / 65536 % 256

/-- The payload event of an emission pass over `f`, if the gate opens (R85, R90, R91, R93). -/
def dataEvents (swap : Bool) (f : FrameBits) : List Event :=
  if good f then [.data (BitVec.ofNat 24 (if swap then swapBytes (payloadSum f) else payloadSum f))] else []

/-- What the notify step emits at the end of a cycle that gathered the byte `b` (R123). -/
def report (s : State) (b : FlagsByte) : List Event :=
  if s.firstPending = true ∨ b ≠ s.snapshot ∨ s.config.alwaysSendState = true then [.state b] else []

/-- The state after the end of a cycle that gathered the byte `b` and produced the payload events `es` (R122, R123, R124). -/
def cycleEnd (s : State) (b : FlagsByte) (es : List Event) : State :=
  { s with
    frame := 0
    bitCount := 0
    keyBitCount := 0
    flags := if s.inputs.rA = true ∧ s.inputs.rB = true then 0x05 else 0x01
    snapshot := b
    firstPending := false
    outputs := s.outputs ++ es ++ report s b }

/-- `(now − LastTimestamp) mod 2^32`, the 32-bit difference of the clock and the last bit's time (R70). -/
def gap (s : State) : Millis :=
  s.inputs.now - s.lastTimestamp

/-- AccumulatedCode after the key-idle rule of an operation (R72). -/
def idledCode (s : State) : BitVec 32 :=
  if (gap s).toNat > 5000 then 0 else s.accumulatedCode

/-- The frame-gap rule of an operation fires (R73). -/
def silent (s : State) : Prop :=
  (gap s).toNat > 20 ∧ s.bitCount ≠ 0

/-- What TICK leaves where the frame-gap rule does not fire (R72, R75). -/
def ticked (s : State) : State :=
  { s with elapsed := gap s, accumulatedCode := idledCode s }

/-- What steps 1 and 2 of BIT leave where the frame-gap rule does not fire (R70, R72). -/
def stamped (s : State) : State :=
  { s with elapsed := gap s, lastTimestamp := s.inputs.now, accumulatedCode := idledCode s }

/-- KeyBitCount after step 4 of BIT (R64). -/
def keyCounted (s : State) : BitVec 4 :=
  if s.config.keypadEnable = true then s.keyBitCount + 1 else s.keyBitCount

/-- The row of the line pair `(a, b)` (R41). -/
def bitRow (a b : Bool) : Instr :=
  if a = b then (if a = true then .bitBoth else .bitNone) else (if b = true then .bit1 else .bit0)

/-- The flags after step 3 of BIT (R62, R63). -/
def sampledFlags (a b : Bool) (s : State) : FlagsByte :=
  if a = b then s.flags ||| 0x08 else s.flags

/-- `f` is the frame of `s` with the slot `BitCount` sampled from `(a, b)` (R62, R63): one asserted line writes the slot, an
ambiguous pair writes nothing, and no other position changes. -/
def Sampled (a b : Bool) (s : State) (f : FrameBits) : Prop :=
  ∀ j, j < 26 → frameBit f j = if j = s.bitCount.toNat ∧ a ≠ b then b else frameBit s.frame j

/-- `f` holds the leading parity `p`, the payload `d` and the trailing parity `q` (R42). -/
def Holds (p : Bool) (d : BitVec 24) (q : Bool) (f : FrameBits) : Prop :=
  frameBit f 0 = p ∧ (∀ i, i < 24 → frameBit f (i + 1) = d.getLsbD i) ∧ frameBit f 25 = q

/-- The rows of the digits (R45). -/
def digitRow : Fin 10 → Instr
  | 0 => .key0
  | 1 => .key1
  | 2 => .key2
  | 3 => .key3
  | 4 => .key4
  | 5 => .key5
  | 6 => .key6
  | 7 => .key7
  | 8 => .key8
  | 9 => .key9

/-- The state after a digit (R104, R106). -/
def afterDigit (d : Nat) (s : State) : State :=
  { cycleEnd s (s.flags ||| 0x02) [.digit (BitVec.ofNat 4 d)] with
    accumulatedCode := BitVec.ofNat 32 (s.accumulatedCode.toNat * 10 + d) }

/-- A submit has a code to dispatch (R105). -/
def sends (s : State) : Prop :=
  s.accumulatedCode.toNat ≠ 0 ∧ s.accumulatedCode.toNat ≤ 0xFFFFFF

/-- The number that a sequence of decimal digits spells, continuing from `n` (R104). -/
def decimal (n : Nat) : List (Fin 10) → Nat
  | [] => n
  | d :: ds => decimal (n * 10 + d.val) ds

/-- Run instructions one after another, stopping at the first that has no next state. -/
def execAll : List Instr → State → Host.Outcome State Fault Refusal
  | [], s => .next s
  | i :: is, s =>
    match exec i s with
    | .next t => execAll is t
    | .fault r => .fault r
    | .refused r => .refused r

/-- The BIT request of a frame's bit (R41, R55): 1 on line B, 0 on line A. -/
def bitRequest (b : Bool) (inputs : Inputs) : Request :=
  { cmd := if b then 0b00101 else 0b00110, inputs := inputs }

/-- The requests of `n` bits `f k`, the `k`-th with the side operands `ins k`. -/
def bitTrace (n : Nat) (f : Nat → Bool) (ins : Nat → Inputs) : List Request :=
  (List.range n).map fun k => bitRequest (f k) (ins k)

/-- The environment keeps the spacing of R168 within a frame of `n` bits: no gap above 20 ms. -/
def Spaced (n : Nat) (ins : Nat → Inputs) : Prop :=
  ∀ k, k + 1 < n → ((ins (k + 1)).now - (ins k).now).toNat ≤ 20

/-- A key value that selects no action (R45, R108). -/
def ignoredValue (v : KeyValue) : Prop :=
  v.toNat > 9 ∧ v.toNat ≠ 11

/-- The KeyCodeFSM after the time check of an operation (R72, R73, R107): the key-idle timeout and a frame-gap timeout that emits
data lead to Idle; anything else, a frame-gap timeout without data included, keeps the state. -/
def timedFsm (s : State) : KeyFsm :=
  if (gap s).toNat > 5000 ∨ ((gap s).toNat > 20 ∧ s.bitCount ≠ 0 ∧ good s.frame = true) then .idle else keyFsm s

/-- The KeyCodeFSM after a key step that decoded `v`, where the time check left `keyFsm = q` and the code `c` (R107): a digit
accumulates, unless the decimal step gives 0; a submit leads to Idle; an ignored value keeps the state. -/
def keyedFsm (v : KeyValue) (q : KeyFsm) (c : BitVec 32) : KeyFsm :=
  if v.toNat ≤ 9 then (if BitVec.ofNat 32 (c.toNat * 10 + v.toNat) = 0 then .idle else .accumulating)
  else if v.toNat = 11 then .idle else q

/-- The KeyCodeFSM over a BIT that takes `s` to `t` with the keypad enabled (R60, R107), for every line pair, the ambiguous
ones included: where the bit reveals a frame-gap timeout, or is neither an 8th nor a 26th, only the time check counts; a 26th
bit leads to Idle where the frame is good; an 8th bit acts by the value of the burst. -/
def BitMovesFsm (s t : State) : Prop :=
  ∀ a b : Bool, exec (bitRow a b) s = .next t →
    (silent s → keyFsm t = timedFsm s) ∧
    (¬ silent s → s.bitCount ≠ 25 → s.keyBitCount ≠ 7 → keyFsm t = timedFsm s) ∧
    (¬ silent s → s.bitCount = 25 → s.keyBitCount ≠ 7 →
      ∃ f, Sampled a b s f ∧ keyFsm t = if good f = true then .idle else timedFsm s) ∧
    (¬ silent s → s.bitCount ≠ 25 → s.keyBitCount = 7 →
      ∃ f, Sampled a b s f ∧ keyFsm t = keyedFsm (keyDecode (burstBits f)) (timedFsm s) (idledCode s))

/-- The rows that are BIT operations (R60). -/
def isBit : Instr → Bool
  | .bit0 => true
  | .bit1 => true
  | .bitBoth => true
  | .bitNone => true
  | _ => false

/-- The history of R23 (viii): whether some BIT since the last reset step was ambiguous, after the operation `i` took `s` to
`t`, where `g` was the answer before it. A reset step ran inside a BIT iff the count did not simply grow by one, and inside a
TICK iff a frame in progress is gone. -/
def ambiguousAfter (i : Instr) (g : Bool) (s t : State) : Bool :=
  match i with
  | .bit0 => if t.bitCount = s.bitCount + 1 then g else false
  | .bit1 => if t.bitCount = s.bitCount + 1 then g else false
  | .bitBoth => if t.bitCount = 0 then false else true
  | .bitNone => if t.bitCount = 0 then false else true
  | .tick => if s.bitCount ≠ 0 ∧ t.bitCount = 0 then false else g
  | .query => g
  | _ => false

end Sys2Proof.Claims

open Sys2Proof Sys2Proof.Machine Sys2Proof.Claims

/-! ### Encodings -/

/-- Decode and encode agree on every well-formed instruction (R41, R42, R45, R56). -/
def Obligations.DecodeInvertsEncode : Prop :=
  ∀ i : Instr, i.wf = true → decode (encode i) = i

/-- The decoder reads exactly the rows of the opcode table: a word decodes to a well-formed instruction iff it matches that
instruction's row, bit by bit (R41, R42, R45, R52, R56). -/
def Obligations.DecoderReadsTheOpcodeTable : Prop :=
  (∀ w : CodeWord, (decode w).wf = true) ∧
  (∀ (i : Instr) (w : CodeWord), i.wf = true → (decode w = i ↔ i.row w = true))

/-- A few words written out from the spec decode to what they stand for (R45, R56; 95_test_vectors.md). -/
def Obligations.SpecWordsDecode : Prop :=
  decode (.cmd 0b00000) = .init ∧ decode (.cmd 0b00110) = .bit0 ∧ decode (.cmd 0b00101) = .bit1 ∧
  decode (.cmd 0b00111) = .bitBoth ∧ decode (.cmd 0b00100) = .bitNone ∧ decode (.cmd 0b01011) = .tick ∧
  decode (.cmd 0b01100) = .query ∧ decode (.cmd 0b10010) = .reset ∧ decode (.cmd 0b10100) = .reserved5 ∧
  decode (.key8 0b11001100) = .key3 ∧ decode (.key8 0b11011101) = .keySubmit ∧
  decode (.key8 0b01010101) = .keyIgnored10 ∧ decode (.key8 0b11001000) = .keyMismatch 3 1 ∧
  decode (.frame26 0b10110101000101100010010001) = .frame26 true 0x123456 true

/-- The default KeyDecode by positions: windows that agree position by position give their weighted sum, the earlier bit
weighing less; any other burst gives the sentinel (R44, R101; the spec's decision D7, log entry 5). -/
def Obligations.KeyDecodeWeighsEarlierBitsLess : Prop :=
  ∀ f : Burst,
    ((∀ k, k < 4 → f.getLsbD k = f.getLsbD (k + 4)) →
      (keyDecode f).toNat =
        (f.getLsbD 0).toNat + 2 * (f.getLsbD 1).toNat + 4 * (f.getLsbD 2).toNat + 8 * (f.getLsbD 3).toNat) ∧
    ((∃ k, k < 4 ∧ f.getLsbD k ≠ f.getLsbD (k + 4)) → keyDecode f = 0xFF)

/-! ### Which instruction a step runs -/

/-- Between operations a step takes the operation that the environment issues next and runs what its command word decodes to,
with that request's side operands and an empty output list; the trace loses that request and nothing else happens around
`exec` (R35, R38, R51, R56). -/
def Obligations.StepRunsTheRequestedOperation : Prop :=
  ∀ (s : State) (r : Request) (rest : List Request) (i : Instr),
    (s.initialised = false ∨ (keyDue s = false ∧ frameDue s = false)) → s.trace = r :: rest → decode (.cmd r.cmd) = i →
    step s = exec i { s with trace := rest, inputs := r.inputs, outputs := [] }

/-- The model's choice (log entry 3): a step from a state inside a BIT operation runs the data encoding that is due, the key
burst with KeyBitCount set back to 0 (R60 step 5), the card frame as it stands (R60 step 6); and where no operation is
requested and none is due, a step changes nothing. -/
def Obligations.StepRunsTheDueDataEncoding : Prop :=
  ∀ s : State,
    (∀ i, s.initialised = true → keyDue s = true → decode (.key8 (burstBits s.frame).reverse) = i →
      step s = exec i { s with keyBitCount := 0 }) ∧
    (∀ i, s.initialised = true → keyDue s = false → frameDue s = true → decode (.frame26 s.frame.reverse) = i →
      step s = exec i s) ∧
    ((s.initialised = false ∨ (keyDue s = false ∧ frameDue s = false)) → s.trace = [] → step s = .next s)

/-! ### INIT, QUERY, RESET, the reserved selectors, and the state before INIT -/

/-- INIT writes every element and emits nothing, from every prior state (R160, R25). -/
def Obligations.InitWritesEveryElement : Prop :=
  (∀ w : BitVec 5, selectorOf w = 0 → decode (.cmd w) = .init) ∧
  ∀ s : State, exec .init s = .next
    { frame := 0
      bitCount := 0
      keyBitCount := 0
      accumulatedCode := 0
      flags := if s.inputs.rA = true ∧ s.inputs.rB = true then 0x05 else 0x01
      snapshot := 0x00
      firstPending := true
      lastTimestamp := 0
      elapsed := 0
      config :=
        { alwaysSendState := s.inputs.cfg.getLsbD 0
          byteReorder := s.inputs.cfg.getLsbD 1
          keypadEnable := s.inputs.cfg.getLsbD 2 }
      initialised := true
      inputs := s.inputs
      trace := s.trace
      outputs := s.outputs }

/-- The reset state is the one INIT leaves with cfg 000 and both lines high (R160, R161, R25). That the model's reset takes
this configuration and these levels is its own choice (log entry 6). -/
def Obligations.ResetStateIsTheStateAfterInit : Prop :=
  ∀ s : State, s.inputs.cfg = 0 → s.inputs.rA = true → s.inputs.rB = true →
    exec .init s = .next { State.reset with inputs := s.inputs, trace := s.trace, outputs := s.outputs }

/-- Before INIT no instruction but INIT has a meaning (R162). R162 offers the refusal as one of two ways to say so and names BIT,
TICK, QUERY and RESET; that the model refuses, and that it refuses the KEY and FRAME26 rows too, is its own choice (log entry
10). -/
def Obligations.NothingButInitRunsBeforeInit : Prop :=
  ∀ (i : Instr) (s : State), s.initialised = false →
    i ≠ .init → i ≠ .reserved5 → i ≠ .reserved6 → i ≠ .reserved7 → exec i s = .refused .beforeInit

/-- Selectors 5, 6 and 7 are refused (R52). -/
def Obligations.ReservedSelectorsAreRefused : Prop :=
  (∀ w : BitVec 5, selectorOf w = 5 → decode (.cmd w) = .reserved5) ∧
  (∀ w : BitVec 5, selectorOf w = 6 → decode (.cmd w) = .reserved6) ∧
  (∀ w : BitVec 5, selectorOf w = 7 → decode (.cmd w) = .reserved7) ∧
  ∀ s : State, exec .reserved5 s = .refused (.reservedSelector 5) ∧
    exec .reserved6 s = .refused (.reservedSelector 6) ∧ exec .reserved7 s = .refused (.reservedSelector 7)

/-- QUERY emits the live flags and changes no state element (R127). -/
def Obligations.QueryEmitsFlagsAndChangesNothing : Prop :=
  (∀ w : BitVec 5, selectorOf w = 3 → decode (.cmd w) = .query) ∧
  ∀ s : State, s.initialised = true → exec .query s = .next { s with outputs := s.outputs ++ [.state s.flags] }

/-- RESET is the reset procedure: the notify step on the flags gathered so far, then the reset step; no emission pass (R126). -/
def Obligations.ResetEndsTheCycleUnjudged : Prop :=
  (∀ w : BitVec 5, selectorOf w = 4 → decode (.cmd w) = .reset) ∧
  ∀ s : State, s.initialised = true → exec .reset s = .next (cycleEnd s s.flags [])

/-! ### TICK -/

/-- A TICK where the frame-gap rule does not fire: the silence is measured against LastTimestamp, which is not written, and a
silence of more than 5000 ms clears AccumulatedCode, and nothing else changes (R72, R74, R75). -/
def Obligations.TickWithoutFrameGap : Prop :=
  (∀ w : BitVec 5, selectorOf w = 2 → decode (.cmd w) = .tick) ∧
  ∀ s : State, s.initialised = true → ¬ silent s → exec .tick s = .next (ticked s)

/-- A TICK where the frame-gap rule fires: ReceiveTimeout, the emission pass over the partial frame, the end of the cycle
(R73, R75, R86). -/
def Obligations.TickClosesASilentFrame : Prop :=
  ∀ s : State, s.initialised = true → silent s →
    exec .tick s = .next
      { cycleEnd s (s.flags ||| 0x10 ||| passFlags s.bitCount s.frame) (dataEvents s.config.byteReorder s.frame) with
        elapsed := gap s
        accumulatedCode := if good s.frame = true then 0 else idledCode s }

/-- The order of the key-idle rule and the frame-gap rule is not observable (R71). -/
def Obligations.TimeoutRulesCommute : Prop :=
  ∀ (rA rB : Bool) (s : State), timeCheck rA rB s = keyIdle (frameGap rA rB s)

/-! ### BIT -/

/-- A bit event with exactly one line asserted, away from a timeout, from a key decode and from the 26th bit, writes the slot
BitCount with the bit and counts (R60, R62, R64, R70, R72). -/
def Obligations.BitAppendsAndCounts : Prop :=
  ∀ (a b : Bool) (s : State), a ≠ b → s.initialised = true → ¬ silent s → s.bitCount ≠ 25 →
    (s.config.keypadEnable = false ∨ s.keyBitCount ≠ 7) →
    ∃ f, Sampled a b s f ∧
      exec (bitRow a b) s = .next { stamped s with frame := f, bitCount := s.bitCount + 1, keyBitCount := keyCounted s }

/-- A bit event with both or neither line asserted sets LogicFault, writes no slot and counts all the same (R60, R63, R64). -/
def Obligations.AmbiguousBitSetsLogicFaultAndCounts : Prop :=
  ∀ (a : Bool) (s : State), s.initialised = true → ¬ silent s → s.bitCount ≠ 25 →
    (s.config.keypadEnable = false ∨ s.keyBitCount ≠ 7) →
    exec (bitRow a a) s = .next
      { stamped s with flags := s.flags ||| 0x08, bitCount := s.bitCount + 1, keyBitCount := keyCounted s }

/-- The two ambiguous line pairs behave identically (R63). -/
def Obligations.AmbiguousPairsBehaveIdentically : Prop :=
  ∀ s : State, exec .bitBoth s = exec .bitNone s

/-- The bit event that reveals a frame-gap timeout closes the old frame exactly as a TICK does and becomes index 0 of the new
one; its own LogicFault lands in the new cycle (R60, R63, R73, R77). -/
def Obligations.BitAfterSilenceStartsANewFrame : Prop :=
  ∀ (a b : Bool) (s u : State), s.initialised = true → silent s → exec .tick s = .next u →
    exec (bitRow a b) s = .next
      { u with
        lastTimestamp := s.inputs.now
        frame := if a ≠ b ∧ b = true then 1 else 0
        bitCount := 1
        keyBitCount := if s.config.keypadEnable = true then 1 else 0
        flags := sampledFlags a b u }

/-- The 26th bit event: the sampled frame is judged by the emission pass and the cycle ends, whatever the pass found
(R60, R65, R86). -/
def Obligations.TwentySixthBitJudgesTheFrame : Prop :=
  ∀ (a b : Bool) (s : State), s.initialised = true → ¬ silent s → s.bitCount = 25 →
    (s.config.keypadEnable = false ∨ s.keyBitCount ≠ 7) →
    ∃ f, Sampled a b s f ∧
      exec (bitRow a b) s = .next
        { cycleEnd (stamped s) (sampledFlags a b s ||| passFlags 26 f) (dataEvents s.config.byteReorder f) with
          accumulatedCode := if good f = true then 0 else idledCode s }

/-- The bit event that completes an 8-bit group with the keypad enabled runs the KEY row that the first eight bits decode to,
on the counted state with KeyBitCount back at 0 (R60, R64, R100; the rows' patterns are decision D7's, log entry 5). That the row
is an instruction of its own is the model's choice (log entry 18). -/
def Obligations.EighthBitRunsTheKeyRow : Prop :=
  ∀ (a b : Bool) (s : State), s.initialised = true → ¬ silent s → s.bitCount ≠ 25 →
    s.config.keypadEnable = true → s.keyBitCount = 7 →
    ∃ f, Sampled a b s f ∧
      exec (bitRow a b) s =
        exec (decode (.key8 (burstBits f).reverse))
          { stamped s with frame := f, flags := sampledFlags a b s, bitCount := s.bitCount + 1, keyBitCount := 0 }

/-- The bit event that completes a frame runs the FRAME26 row that the sampled frame stands for (R42, R60, R65). That the row is
an instruction of its own is the model's choice (log entry 18). -/
def Obligations.CompletingBitRunsTheFrameRow : Prop :=
  ∀ (a b : Bool) (s : State), s.initialised = true → ¬ silent s → s.bitCount = 25 →
    (s.config.keypadEnable = false ∨ s.keyBitCount ≠ 7) →
    ∃ f, Sampled a b s f ∧
      exec (bitRow a b) s =
        exec (decode (.frame26 f.reverse))
          { stamped s with frame := f, flags := sampledFlags a b s, bitCount := 26, keyBitCount := keyCounted s }

/-- BIT is total: once INIT has been performed, every bit event in every state has a next state; it stamps the time and leaves
the configuration alone (R60, R70). -/
def Obligations.EveryBitEventCompletes : Prop :=
  ∀ (a b : Bool) (s : State), s.initialised = true →
    ∃ t, exec (bitRow a b) s = .next t ∧ SameSetup s t ∧ t.lastTimestamp = s.inputs.now ∧
      t.elapsed = gap s

/-! ### The emission pass and the payload -/

/-- FRAME26: a received frame is judged by its two parities; where both are right the payload goes out and AccumulatedCode is
cleared, and the cycle ends in every case (R42, R65, R85, R86, R93, R122). That FRAME26 runs as an instruction of its own, with its
fields put in Frame and BitCount made 26 from any state, is the model's choice (log entry 18). -/
def Obligations.ReceivedFrameIsJudgedByItsParities : Prop :=
  ∀ (p : Bool) (d : BitVec 24) (q : Bool) (s : State) (f : FrameBits), s.initialised = true → Holds p d q f →
    exec (.frame26 p d q) s = .next
      { cycleEnd s (s.flags ||| passFlags 26 f) (dataEvents s.config.byteReorder f) with
        accumulatedCode := if good f = true then 0 else s.accumulatedCode }

/-- The payload value is `Σ_{i=1..24} Frame[i] · 2^(i−1)` (R90). -/
def Obligations.PayloadIsTheWeightedSum : Prop :=
  ∀ f : FrameBits, (payloadOf f).toNat = payloadSum f ∧ ∀ i, i < 24 → (payloadOf f).getLsbD i = frameBit f (i + 1)

/-- The byte reorder exchanges the lowest and the highest byte, keeps the middle one and the order of bits inside a byte, is its
own inverse, and does nothing when disabled (R91). -/
def Obligations.ReorderSwapsOuterBytes : Prop :=
  ∀ v : Payload,
    (∀ i, i < 8 → (reorder true v).getLsbD i = v.getLsbD (i + 16) ∧ (reorder true v).getLsbD (i + 8) = v.getLsbD (i + 8) ∧
      (reorder true v).getLsbD (i + 16) = v.getLsbD i) ∧
    reorder true (reorder true v) = v ∧ reorder false v = v

/-- DataSent never comes with a parity flag: the pass sets it iff it sets neither (R85, R86, R147). -/
def Obligations.PassEmitsIffNoParityFault : Prop :=
  ∀ s : State, hasFlag .dataSent s.flags = false → hasFlag .parityFirstFault s.flags = false →
    hasFlag .paritySecondFault s.flags = false →
    (hasFlag .dataSent (emissionPass s).flags = true ↔
      (hasFlag .parityFirstFault (emissionPass s).flags = false ∧
        hasFlag .paritySecondFault (emissionPass s).flags = false)) ∧
    (hasFlag .dataSent (emissionPass s).flags = true ↔ (emissionPass s).outputs ≠ s.outputs) ∧
    (hasFlag .bitsFault (emissionPass s).flags = true ↔ s.bitCount ≠ 26 ∨ hasFlag .bitsFault s.flags = true)

/-! ### The keypad -/

/-- KEY.0 to KEY.9 with the keypad enabled: the decimal step modulo 2^32, the `Digit` event, DataSent, and the forced end of the
cycle (R104, R106, R122). That a KEY row runs as an instruction of its own, outside a BIT, is the model's choice (log entry 18). -/
def Obligations.DigitExtendsTheCode : Prop :=
  ∀ (d : Fin 10) (s : State), s.initialised = true → s.config.keypadEnable = true →
    exec (digitRow d) s = .next (afterDigit d.val s)

/-- KEY.SUBMIT with the keypad enabled: a code that is nonzero and at most 0xFFFFFF is dispatched with DataSent;
AccumulatedCode is cleared and the cycle ends in every case (R105, R106, R122). That KEY.SUBMIT runs as an instruction of its
own, outside a BIT, is the model's choice (log entry 18). -/
def Obligations.SubmitDispatchesAndClears : Prop :=
  ∀ s : State, s.initialised = true → s.config.keypadEnable = true →
    (sends s → exec .keySubmit s = .next
      { cycleEnd s (s.flags ||| 0x02) [.code (BitVec.ofNat 24 s.accumulatedCode.toNat)] with accumulatedCode := 0 }) ∧
    (¬ sends s → exec .keySubmit s = .next { cycleEnd s s.flags [] with accumulatedCode := 0 })

/-- The ignored values and the mismatch change nothing at all (R108). That their rows run as instructions of their own, and change
nothing with the keypad disabled either, is the model's choice (log entry 18). -/
def Obligations.IgnoredKeysChangeNothing : Prop :=
  ∀ s : State, s.initialised = true →
    exec .keyIgnored10 s = .next s ∧ exec .keyIgnored12 s = .next s ∧ exec .keyIgnored13 s = .next s ∧
    exec .keyIgnored14 s = .next s ∧ exec .keyIgnored15 s = .next s ∧
    ∀ n1 n2 : BitVec 4, n1 ≠ n2 → exec (.keyMismatch n1 n2) s = .next s

/-- With the keypad disabled no KEY row does anything. R111 says that the key step is then never called; that a KEY row runs as
an instruction of its own, and then changes nothing, is the model's choice (log entry 18). -/
def Obligations.DisabledKeypadIgnoresEveryKey : Prop :=
  ∀ (w : BitVec 8) (s : State), s.initialised = true → s.config.keypadEnable = false →
    exec (decode (.key8 w)) s = .next s

/-- The action depends on the decoded value alone, for every decode function: two functions that agree on the burst in the
frame give the same key step, and a value that selects no action gives none (R100, R101, R108, D7). -/
def Obligations.KeyStepDependsOnTheDecodedValue : Prop :=
  ∀ (k1 k2 : Burst → KeyValue) (rA rB : Bool) (s : State),
    (k1 (burstBits s.frame) = k2 (burstBits s.frame) → keyStep k1 rA rB s = keyStep k2 rA rB s) ∧
    (ignoredValue (k1 (burstBits s.frame)) → keyStep k1 rA rB s = s)

/-- The KeyCodeFSM's transitions, every row of R107's table: a digit accumulates, unless the decimal step gives 0; a submit, a
key-idle timeout and a successful data emission return to Idle; ignored values, RESET, QUERY, LogicFault, a parity fault and a
frame-gap timeout without data keep the state. The timeouts are those of TICK and of BIT; INIT leads to Idle (R160). That KEY
and FRAME26 rows run as instructions of their own is the model's choice (log entry 18); inside BIT the bursts decode by D7 (log
entry 5). -/
def Obligations.KeyFsmTransitions : Prop :=
  ∀ s t : State, s.config.keypadEnable = true →
    (∀ d : Fin 10, exec (digitRow d) s = .next t →
      (keyFsm t = .idle ↔ BitVec.ofNat 32 (s.accumulatedCode.toNat * 10 + d.val) = 0)) ∧
    (exec .keySubmit s = .next t → keyFsm t = .idle) ∧
    (∀ p d q f, Holds p d q f → exec (.frame26 p d q) s = .next t →
      keyFsm t = if good f = true then .idle else keyFsm s) ∧
    (∀ i ∈ [Instr.reset, .query, .keyIgnored10, .keyIgnored12, .keyIgnored13, .keyIgnored14, .keyIgnored15],
      exec i s = .next t → keyFsm t = keyFsm s) ∧
    (∀ n1 n2, exec (.keyMismatch n1 n2) s = .next t → keyFsm t = keyFsm s) ∧
    (exec .tick s = .next t → keyFsm t = timedFsm s) ∧
    BitMovesFsm s t ∧
    (exec .init s = .next t → keyFsm t = .idle)

/-- A code entered digit by digit and submitted: the digits go out one by one, and the submit sends the decimal number they
spell, taken modulo 2^32, if it is nonzero and at most 0xFFFFFF; AccumulatedCode ends at 0 (R104, R105, R106, T5). That KEY rows
run as instructions of their own, outside a BIT, is the model's choice (log entry 18). -/
def Obligations.EnteredDigitsAreSubmittedAsDecimal : Prop :=
  ∀ (ds : List (Fin 10)) (s : State), s.initialised = true → s.config.keypadEnable = true → s.accumulatedCode = 0 →
    ∃ u t c, execAll (ds.map digitRow) s = .next u ∧ c = BitVec.ofNat 32 (decimal 0 ds) ∧ u.accumulatedCode = c ∧
      execAll (ds.map digitRow ++ [.keySubmit]) s = .next t ∧ t.accumulatedCode = 0 ∧
      t.outputs.filter isPayload = s.outputs.filter isPayload ++ ds.map (fun d => .digit (BitVec.ofNat 4 d.val)) ++
        (if c.toNat ≠ 0 ∧ c.toNat ≤ 0xFFFFFF then [.code (BitVec.ofNat 24 c.toNat)] else [])

/-! ### Invariants, and what no instruction does -/

/-- The reset state satisfies the invariants of R23. -/
def Obligations.ResetStateSatisfiesInvariants : Prop :=
  Inv State.reset

/-- INIT establishes the invariants from any state, the unspecified one before the first INIT included (R23, R160). -/
def Obligations.InitEstablishesInvariants : Prop :=
  ∀ s t : State, exec .init s = .next t → Inv t

/-- Every step keeps the invariants (i) to (vii) of R23. -/
def Obligations.EveryStepKeepsInvariants : Prop :=
  ∀ s t : State, Inv s → step s = .next t → Inv t

/-- The BIT operation keeps the invariants whatever function decodes key bursts (R23, R101, D7). -/
def Obligations.BitKeepsInvariantsForEveryKeyDecode : Prop :=
  ∀ (k : Burst → KeyValue) (a b : Bool) (now : Millis) (rA rB : Bool) (s : State),
    Inv s → Inv (bitOperation k a b now rA rB s)

/-- Once INIT has been performed no serialized trace of operations ever stops: every step of it has a next state, which
satisfies the invariants, and takes one request (R35, R140, R149). -/
def Obligations.SerializedTraceNeverStops : Prop :=
  ∀ (k : Nat) (s : State), Inv s → (∀ r ∈ s.trace, Legal r) →
    ∃ t : State, Host.Core.run Sys2Proof.core k s = .next t ∧ Inv t ∧ t.trace = s.trace.drop k

/-- A frame still in the buffer after its first eight bits, with the keypad enabled, is one whose burst selects no action, and
every step keeps it so: the key steps at 16 and 24 do nothing (R64, R100; 90_conflicts.md C5; KeyDecode as in D7, log entry 5). -/
def Obligations.SurvivingFramesHoldIgnoredBursts : Prop :=
  ∀ s t : State, Inv s → step s = .next t →
    (s.config.keypadEnable = true → 8 ≤ s.bitCount → ignoredValue (keyDecode (burstBits s.frame))) →
    (t.config.keypadEnable = true → 8 ≤ t.bitCount → ignoredValue (keyDecode (burstBits t.frame)))

/-- LogicFault is set iff some BIT since the last reset step was ambiguous: every operation keeps the flag equal to that
history (R23 (viii)). -/
def Obligations.LogicFaultRecordsAmbiguousBits : Prop :=
  ∀ (i : Instr) (g : Bool) (s t : State), Inv s →
    (isBit i = true ∨ i = .init ∨ i = .tick ∨ i = .query ∨ i = .reset) →
    hasFlag .logicFault s.flags = g → exec i s = .next t → hasFlag .logicFault t.flags = ambiguousAfter i g s t

/-- Only INIT changes the configuration (R20, R37). That no instruction changes the model's own fields for the environment's side
(the operands and the trace) and the marker of INIT is the model's choice (log entries 1 and 10). -/
def Obligations.OnlyInitChangesConfiguration : Prop :=
  ∀ (i : Instr) (s t : State), i ≠ .init → exec i s = .next t → SameSetup s t

/-- Only INIT and BIT write LastTimestamp; only they and TICK write Elapsed (R18, R19). -/
def Obligations.OnlyBitEventsMoveLastTimestamp : Prop :=
  ∀ (i : Instr) (s t : State), i ≠ .init → isBit i = false → exec i s = .next t →
    t.lastTimestamp = s.lastTimestamp ∧ (i ≠ .tick → t.elapsed = s.elapsed)

/-- The baseline changes only to a byte that the same operation emits on the state channel (R16, R123). -/
def Obligations.SnapshotChangesOnlyWhenEmitted : Prop :=
  ∀ (i : Instr) (s t : State), i ≠ .init → exec i s = .next t → t.snapshot ≠ s.snapshot → .state t.snapshot ∈ t.outputs

/-! ### Output channels -/

/-- One operation's output list is empty, one event, or a payload event followed by a `State` event (R38). -/
def Obligations.OperationOutputShape : Prop :=
  ∀ (s t : State), Inv s → s.trace ≠ [] → step s = .next t → outputShape t.outputs = true

/-- Every value on a channel is one the channel can carry, and every state byte is one of R147's (R47, R147). -/
def Obligations.ChannelValuesAndStateBytes : Prop :=
  ∀ (s t : State) (e : Event), Inv s → s.trace ≠ [] → step s = .next t → e ∈ t.outputs →
    channelValue e = true ∧ ∀ b, e = .state b → reportable b = true

/-- In the basic variant no `Digit` and no `Code` event is ever produced and AccumulatedCode stays 0 (R111). -/
def Obligations.BasicVariantHasNoKeyEvents : Prop :=
  ∀ (i : Instr) (s t : State), i ≠ .init → s.config.keypadEnable = false → s.accumulatedCode = 0 → exec i s = .next t →
    t.accumulatedCode = 0 ∧ ∃ es, t.outputs = s.outputs ++ es ∧ ∀ e ∈ es, ∀ v w, e ≠ .digit v ∧ e ≠ .code w

/-! ### Whole frames and bursts, bit by bit -/

/-- 26 bit events from an idle block, spaced as R168 asks, whose first eight bits select no key action: nothing goes out before
the 26th; at the 26th the payload goes out iff both parities are right, then the report; the block is Idle again
(R54, R60, R65, R86, R110; T1, T2; KeyDecode as in D7, log entry 5). -/
def Obligations.TwentySixBitsAreOneCardRead : Prop :=
  ∀ (s : State) (f : FrameBits) (ins : Nat → Inputs) (rest : List Request),
    Inv s → s.bitCount = 0 → Spaced 26 ins →
    (s.config.keypadEnable = true → ignoredValue (keyDecode (burstBits f))) →
    s.trace = bitTrace 26 (frameBit f) ins ++ rest →
    (∀ k, 0 < k → k < 26 → ∃ u : State, Host.Core.run Sys2Proof.core k s = .next u ∧ u.outputs = [] ∧ u.bitCount.toNat = k) ∧
    ∃ t : State, Host.Core.run Sys2Proof.core 26 s = .next t ∧ t.trace = rest ∧
      t.outputs = dataEvents s.config.byteReorder f ++ report s (s.flags ||| passFlags 26 f) ∧
      t.frame = 0 ∧ t.bitCount = 0 ∧ t.keyBitCount = 0 ∧ t.config = s.config ∧
      t.snapshot = s.flags ||| passFlags 26 f ∧ t.firstPending = false ∧
      t.flags = (if (ins 25).rA = true ∧ (ins 25).rB = true then 0x05 else 0x01) ∧
      t.lastTimestamp = (ins 25).now ∧ (good f = true → t.accumulatedCode = 0)

/-- Eight bit events from an idle block with the keypad enabled, spaced as R168 asks, are one keystroke of the value the burst
decodes to: a digit, a submit, or bits of a frame that goes on (R54, R100, R104, R105, R106, R108; KeyDecode as in D7, log
entry 5). -/
def Obligations.EightBitsAreOneKeystroke : Prop :=
  ∀ (s : State) (f : Burst) (ins : Nat → Inputs) (rest : List Request),
    Inv s → s.bitCount = 0 → s.config.keypadEnable = true → Spaced 8 ins →
    s.trace = bitTrace 8 f.getLsbD ins ++ rest →
    ∃ (t : State) (c : BitVec 32), Host.Core.run Sys2Proof.core 8 s = .next t ∧ t.trace = rest ∧
      c = (if ((ins 0).now - s.lastTimestamp).toNat > 5000 then 0 else s.accumulatedCode) ∧
      ((keyDecode f).toNat ≤ 9 →
        t.bitCount = 0 ∧ t.frame = 0 ∧ t.accumulatedCode = BitVec.ofNat 32 (c.toNat * 10 + (keyDecode f).toNat) ∧
        t.outputs = [.digit (BitVec.ofNat 4 (keyDecode f).toNat)] ++ report s (s.flags ||| 0x02)) ∧
      ((keyDecode f).toNat = 11 →
        t.bitCount = 0 ∧ t.frame = 0 ∧ t.accumulatedCode = 0 ∧
        t.outputs = (if c.toNat ≠ 0 ∧ c.toNat ≤ 0xFFFFFF then [.code (BitVec.ofNat 24 c.toNat)] ++ report s (s.flags ||| 0x02)
          else report s s.flags)) ∧
      (ignoredValue (keyDecode f) →
        t.bitCount = 8 ∧ t.keyBitCount = 0 ∧ burstBits t.frame = f ∧ t.accumulatedCode = c ∧ t.flags = s.flags ∧
        t.outputs = [])
end

