-- ==== Sys2Proof/Laws/Flags.lean ====
section
/-!
SUPPORT. Reading a flag after setting one (10_state.md R15), and the flags a reset step leaves (R124).
-/
namespace Sys2Proof.Machine

theorem flagPosition_injective {f g : Flag} (h : flagPosition f = flagPosition g) : f = g := by
  cases f <;> cases g <;> first | rfl | simp [flagPosition] at h

/-- Setting a flag sets that flag and no other (R8, R15). -/
@[simp] theorem hasFlag_setFlagBit (f g : Flag) (b : FlagsByte) :
    hasFlag g (setFlagBit f b) = (decide (g = f) || hasFlag g b) := by
  have hbit : (flagMask f).getLsbD (flagPosition g) = decide (g = f) := by
    cases f <;> cases g <;> decide
  unfold hasFlag setFlagBit
  rw [BitVec.getLsbD_or, hbit, Bool.or_comm]

@[simp] theorem hasFlag_initialized_freshFlags (rA rB : Bool) : hasFlag .initialized (freshFlags rA rB) = true := by
  cases rA <;> cases rB <;> decide

@[simp] theorem hasFlag_connectionOk_freshFlags (rA rB : Bool) :
    hasFlag .connectionOk (freshFlags rA rB) = (rA && rB) := by
  cases rA <;> cases rB <;> decide

/-- A reset step leaves no fault flag and no DataSent (R124, R130). -/
theorem hasFlag_freshFlags_of_cyclic {f : Flag} (rA rB : Bool) (h1 : f ≠ .initialized) (h2 : f ≠ .connectionOk) :
    hasFlag f (freshFlags rA rB) = false := by
  cases f <;> first | exact absurd rfl h1 | exact absurd rfl h2 | (cases rA <;> cases rB <;> decide)

/-- The byte a reset step leaves: 0x05 or 0x01 (R124). -/
theorem freshFlags_eq (rA rB : Bool) : freshFlags rA rB = if rA && rB then 0x05 else 0x01 := by
  cases rA <;> cases rB <;> decide

end Sys2Proof.Machine
end

