-- ==== Sys2Proof/Laws/Frame.lean ====
section
/-!
SUPPORT. The frame buffer bit by bit: writing a position, and the fields of a frame built from its parts.
-/
namespace Sys2Proof.Machine

/-- A write changes the position it names and no other; an index outside the buffer writes nothing (R62). -/
theorem frameBit_setFrameBit (f : FrameBits) (i j : Nat) (b : Bool) :
    frameBit (setFrameBit f i b) j = if j = i ∧ j < 26 then b else frameBit f j := by
  rcases Nat.lt_or_ge j 26 with hj | hj
  · have hpow : (BitVec.twoPow 26 i).getLsbD j = decide (j = i) := by
      by_cases h : j = i
      · subst h; simp [hj]
      · simp [BitVec.getLsbD_twoPow, h, eq_comm (a := i)]
    unfold frameBit setFrameBit
    cases b
    · rw [if_neg (by decide), BitVec.getLsbD_and, BitVec.getLsbD_not, hpow]
      by_cases h : j = i
      · rw [if_pos ⟨h, hj⟩, decide_eq_true h, Bool.not_true, Bool.and_false, Bool.and_false]
      · rw [if_neg (fun c => h c.1), decide_eq_false h, decide_eq_true hj, Bool.not_false, Bool.and_true, Bool.and_true]
    · rw [if_pos rfl, BitVec.getLsbD_or, hpow]
      by_cases h : j = i
      · rw [if_pos ⟨h, hj⟩, decide_eq_true h, Bool.or_true]
      · rw [if_neg (fun c => h c.1), decide_eq_false h, Bool.or_false]
  · rw [if_neg (by omega)]
    unfold frameBit
    rw [BitVec.getLsbD_of_ge _ _ hj, BitVec.getLsbD_of_ge _ _ hj]

/-- The all-zero buffer (R11). -/
@[simp] theorem frameBit_zero (j : Nat) : frameBit 0 j = false := by
  simp [frameBit]

/-- Two frames with the same 26 bits are the same. -/
theorem frame_ext {f g : FrameBits} (h : ∀ i, i < 26 → frameBit f i = frameBit g i) : f = g :=
  BitVec.eq_of_getLsbD_eq fun i hi => h i hi

/-- `frameOf` puts `p` first, bit `i` of the payload at index `i + 1`, and `q` last (R42). -/
theorem frameBit_frameOf (p : Bool) (d : BitVec 24) (q : Bool) (j : Nat) :
    frameBit (frameOf p d q) j = if j = 0 then p else if j ≤ 24 then d.getLsbD (j - 1) else decide (j = 25) && q := by
  unfold frameBit frameOf
  rw [BitVec.getLsbD_append, BitVec.getLsbD_append]
  by_cases h0 : j = 0
  · subst h0; simp
  · rw [if_neg (by omega : ¬ j < 1), if_neg h0]
    by_cases h24 : j ≤ 24
    · rw [if_pos (by omega : j - 1 < 24), if_pos h24]
    · rw [if_neg (by omega : ¬ j - 1 < 24), if_neg h24]
      by_cases h25 : j = 25
      · subst h25; simp
      · have h0' : j - 1 - 24 ≠ 0 := by omega
        simp [BitVec.getLsbD_ofBool, h0', h25]

/-- Extract reads frame index `i + 1` into value bit `i` (R90). -/
theorem getLsbD_payloadOf (f : FrameBits) (i : Nat) :
    (payloadOf f).getLsbD i = (decide (i < 24) && frameBit f (i + 1)) := by
  simp [payloadOf, frameBit, Nat.add_comm]

/-- A frame is its leading parity, its payload and its trailing parity (R42). -/
theorem frameOf_parts (f : FrameBits) : frameOf (frameBit f 0) (payloadOf f) (frameBit f 25) = f := by
  refine frame_ext fun i hi => ?_
  rw [frameBit_frameOf]
  by_cases h0 : i = 0
  · rw [if_pos h0, h0]
  · rw [if_neg h0]
    by_cases h24 : i ≤ 24
    · rw [if_pos h24, getLsbD_payloadOf, Nat.sub_add_cancel (by omega), decide_eq_true (by omega), Bool.true_and]
    · obtain rfl : i = 25 := by omega
      rfl

/-- The burst is the first eight positions (R44). -/
theorem getLsbD_burstBits (f : FrameBits) (k : Nat) : (burstBits f).getLsbD k = (decide (k < 8) && frameBit f k) := by
  simp [burstBits, frameBit]

end Sys2Proof.Machine
end

