-- ==== Sys2Proof/Laws/State.lean ====
section
/-!
SUPPORT. One lemma per field per update: what each elementary update writes and what it leaves alone.
-/
namespace Sys2Proof.Machine

variable (s : State)

/-! `emit` -/

@[simp] theorem emit_frame (e : Event) : (emit e s).frame = s.frame := rfl
@[simp] theorem emit_bitCount (e : Event) : (emit e s).bitCount = s.bitCount := rfl
@[simp] theorem emit_keyBitCount (e : Event) : (emit e s).keyBitCount = s.keyBitCount := rfl
@[simp] theorem emit_accumulatedCode (e : Event) : (emit e s).accumulatedCode = s.accumulatedCode := rfl
@[simp] theorem emit_flags (e : Event) : (emit e s).flags = s.flags := rfl
@[simp] theorem emit_snapshot (e : Event) : (emit e s).snapshot = s.snapshot := rfl
@[simp] theorem emit_firstPending (e : Event) : (emit e s).firstPending = s.firstPending := rfl
@[simp] theorem emit_lastTimestamp (e : Event) : (emit e s).lastTimestamp = s.lastTimestamp := rfl
@[simp] theorem emit_elapsed (e : Event) : (emit e s).elapsed = s.elapsed := rfl
@[simp] theorem emit_config (e : Event) : (emit e s).config = s.config := rfl
@[simp] theorem emit_initialised (e : Event) : (emit e s).initialised = s.initialised := rfl
@[simp] theorem emit_inputs (e : Event) : (emit e s).inputs = s.inputs := rfl
@[simp] theorem emit_trace (e : Event) : (emit e s).trace = s.trace := rfl
@[simp] theorem emit_outputs (e : Event) : (emit e s).outputs = s.outputs ++ [e] := rfl

/-! `setFlag` -/

@[simp] theorem setFlag_frame (f : Flag) : (setFlag f s).frame = s.frame := rfl
@[simp] theorem setFlag_bitCount (f : Flag) : (setFlag f s).bitCount = s.bitCount := rfl
@[simp] theorem setFlag_keyBitCount (f : Flag) : (setFlag f s).keyBitCount = s.keyBitCount := rfl
@[simp] theorem setFlag_accumulatedCode (f : Flag) : (setFlag f s).accumulatedCode = s.accumulatedCode := rfl
@[simp] theorem setFlag_flags (f : Flag) : (setFlag f s).flags = setFlagBit f s.flags := rfl
@[simp] theorem setFlag_snapshot (f : Flag) : (setFlag f s).snapshot = s.snapshot := rfl
@[simp] theorem setFlag_firstPending (f : Flag) : (setFlag f s).firstPending = s.firstPending := rfl
@[simp] theorem setFlag_lastTimestamp (f : Flag) : (setFlag f s).lastTimestamp = s.lastTimestamp := rfl
@[simp] theorem setFlag_elapsed (f : Flag) : (setFlag f s).elapsed = s.elapsed := rfl
@[simp] theorem setFlag_config (f : Flag) : (setFlag f s).config = s.config := rfl
@[simp] theorem setFlag_initialised (f : Flag) : (setFlag f s).initialised = s.initialised := rfl
@[simp] theorem setFlag_inputs (f : Flag) : (setFlag f s).inputs = s.inputs := rfl
@[simp] theorem setFlag_trace (f : Flag) : (setFlag f s).trace = s.trace := rfl
@[simp] theorem setFlag_outputs (f : Flag) : (setFlag f s).outputs = s.outputs := rfl

/-! `resetStep` -/

@[simp] theorem resetStep_frame (rA rB : Bool) : (resetStep rA rB s).frame = 0 := rfl
@[simp] theorem resetStep_bitCount (rA rB : Bool) : (resetStep rA rB s).bitCount = 0 := rfl
@[simp] theorem resetStep_keyBitCount (rA rB : Bool) : (resetStep rA rB s).keyBitCount = 0 := rfl
@[simp] theorem resetStep_accumulatedCode (rA rB : Bool) : (resetStep rA rB s).accumulatedCode = s.accumulatedCode := rfl
@[simp] theorem resetStep_flags (rA rB : Bool) : (resetStep rA rB s).flags = freshFlags rA rB := rfl
@[simp] theorem resetStep_snapshot (rA rB : Bool) : (resetStep rA rB s).snapshot = s.snapshot := rfl
@[simp] theorem resetStep_firstPending (rA rB : Bool) : (resetStep rA rB s).firstPending = s.firstPending := rfl
@[simp] theorem resetStep_lastTimestamp (rA rB : Bool) : (resetStep rA rB s).lastTimestamp = s.lastTimestamp := rfl
@[simp] theorem resetStep_elapsed (rA rB : Bool) : (resetStep rA rB s).elapsed = s.elapsed := rfl
@[simp] theorem resetStep_config (rA rB : Bool) : (resetStep rA rB s).config = s.config := rfl
@[simp] theorem resetStep_initialised (rA rB : Bool) : (resetStep rA rB s).initialised = s.initialised := rfl
@[simp] theorem resetStep_inputs (rA rB : Bool) : (resetStep rA rB s).inputs = s.inputs := rfl
@[simp] theorem resetStep_trace (rA rB : Bool) : (resetStep rA rB s).trace = s.trace := rfl
@[simp] theorem resetStep_outputs (rA rB : Bool) : (resetStep rA rB s).outputs = s.outputs := rfl

/-! `dataEmit` -/

@[simp] theorem dataEmit_frame : (dataEmit s).frame = s.frame := rfl
@[simp] theorem dataEmit_bitCount : (dataEmit s).bitCount = s.bitCount := rfl
@[simp] theorem dataEmit_keyBitCount : (dataEmit s).keyBitCount = s.keyBitCount := rfl
@[simp] theorem dataEmit_accumulatedCode : (dataEmit s).accumulatedCode = 0 := rfl
@[simp] theorem dataEmit_flags : (dataEmit s).flags = setFlagBit .dataSent s.flags := rfl
@[simp] theorem dataEmit_snapshot : (dataEmit s).snapshot = s.snapshot := rfl
@[simp] theorem dataEmit_firstPending : (dataEmit s).firstPending = s.firstPending := rfl
@[simp] theorem dataEmit_lastTimestamp : (dataEmit s).lastTimestamp = s.lastTimestamp := rfl
@[simp] theorem dataEmit_elapsed : (dataEmit s).elapsed = s.elapsed := rfl
@[simp] theorem dataEmit_config : (dataEmit s).config = s.config := rfl
@[simp] theorem dataEmit_initialised : (dataEmit s).initialised = s.initialised := rfl
@[simp] theorem dataEmit_inputs : (dataEmit s).inputs = s.inputs := rfl
@[simp] theorem dataEmit_trace : (dataEmit s).trace = s.trace := rfl
@[simp] theorem dataEmit_outputs : (dataEmit s).outputs = s.outputs ++ [.data (reorder s.config.byteReorder (payloadOf s.frame))] := rfl

/-! `enterDigit` -/

@[simp] theorem enterDigit_frame (v : BitVec 4) : (enterDigit v s).frame = s.frame := rfl
@[simp] theorem enterDigit_bitCount (v : BitVec 4) : (enterDigit v s).bitCount = s.bitCount := rfl
@[simp] theorem enterDigit_keyBitCount (v : BitVec 4) : (enterDigit v s).keyBitCount = s.keyBitCount := rfl
@[simp] theorem enterDigit_accumulatedCode (v : BitVec 4) : (enterDigit v s).accumulatedCode = decimalStep s.accumulatedCode v := rfl
@[simp] theorem enterDigit_flags (v : BitVec 4) : (enterDigit v s).flags = setFlagBit .dataSent s.flags := rfl
@[simp] theorem enterDigit_snapshot (v : BitVec 4) : (enterDigit v s).snapshot = s.snapshot := rfl
@[simp] theorem enterDigit_firstPending (v : BitVec 4) : (enterDigit v s).firstPending = s.firstPending := rfl
@[simp] theorem enterDigit_lastTimestamp (v : BitVec 4) : (enterDigit v s).lastTimestamp = s.lastTimestamp := rfl
@[simp] theorem enterDigit_elapsed (v : BitVec 4) : (enterDigit v s).elapsed = s.elapsed := rfl
@[simp] theorem enterDigit_config (v : BitVec 4) : (enterDigit v s).config = s.config := rfl
@[simp] theorem enterDigit_initialised (v : BitVec 4) : (enterDigit v s).initialised = s.initialised := rfl
@[simp] theorem enterDigit_inputs (v : BitVec 4) : (enterDigit v s).inputs = s.inputs := rfl
@[simp] theorem enterDigit_trace (v : BitVec 4) : (enterDigit v s).trace = s.trace := rfl
@[simp] theorem enterDigit_outputs (v : BitVec 4) : (enterDigit v s).outputs = s.outputs ++ [.digit v] := rfl

/-! `timeStamp` -/

@[simp] theorem timeStamp_frame (now : Millis) : (timeStamp now s).frame = s.frame := rfl
@[simp] theorem timeStamp_bitCount (now : Millis) : (timeStamp now s).bitCount = s.bitCount := rfl
@[simp] theorem timeStamp_keyBitCount (now : Millis) : (timeStamp now s).keyBitCount = s.keyBitCount := rfl
@[simp] theorem timeStamp_accumulatedCode (now : Millis) : (timeStamp now s).accumulatedCode = s.accumulatedCode := rfl
@[simp] theorem timeStamp_flags (now : Millis) : (timeStamp now s).flags = s.flags := rfl
@[simp] theorem timeStamp_snapshot (now : Millis) : (timeStamp now s).snapshot = s.snapshot := rfl
@[simp] theorem timeStamp_firstPending (now : Millis) : (timeStamp now s).firstPending = s.firstPending := rfl
@[simp] theorem timeStamp_lastTimestamp (now : Millis) : (timeStamp now s).lastTimestamp = now := rfl
@[simp] theorem timeStamp_elapsed (now : Millis) : (timeStamp now s).elapsed = elapsedSince s.lastTimestamp now := rfl
@[simp] theorem timeStamp_config (now : Millis) : (timeStamp now s).config = s.config := rfl
@[simp] theorem timeStamp_initialised (now : Millis) : (timeStamp now s).initialised = s.initialised := rfl
@[simp] theorem timeStamp_inputs (now : Millis) : (timeStamp now s).inputs = s.inputs := rfl
@[simp] theorem timeStamp_trace (now : Millis) : (timeStamp now s).trace = s.trace := rfl
@[simp] theorem timeStamp_outputs (now : Millis) : (timeStamp now s).outputs = s.outputs := rfl

/-! `measureSilence` -/

@[simp] theorem measureSilence_frame (now : Millis) : (measureSilence now s).frame = s.frame := rfl
@[simp] theorem measureSilence_bitCount (now : Millis) : (measureSilence now s).bitCount = s.bitCount := rfl
@[simp] theorem measureSilence_keyBitCount (now : Millis) : (measureSilence now s).keyBitCount = s.keyBitCount := rfl
@[simp] theorem measureSilence_accumulatedCode (now : Millis) : (measureSilence now s).accumulatedCode = s.accumulatedCode := rfl
@[simp] theorem measureSilence_flags (now : Millis) : (measureSilence now s).flags = s.flags := rfl
@[simp] theorem measureSilence_snapshot (now : Millis) : (measureSilence now s).snapshot = s.snapshot := rfl
@[simp] theorem measureSilence_firstPending (now : Millis) : (measureSilence now s).firstPending = s.firstPending := rfl
@[simp] theorem measureSilence_lastTimestamp (now : Millis) : (measureSilence now s).lastTimestamp = s.lastTimestamp := rfl
@[simp] theorem measureSilence_elapsed (now : Millis) : (measureSilence now s).elapsed = elapsedSince s.lastTimestamp now := rfl
@[simp] theorem measureSilence_config (now : Millis) : (measureSilence now s).config = s.config := rfl
@[simp] theorem measureSilence_initialised (now : Millis) : (measureSilence now s).initialised = s.initialised := rfl
@[simp] theorem measureSilence_inputs (now : Millis) : (measureSilence now s).inputs = s.inputs := rfl
@[simp] theorem measureSilence_trace (now : Millis) : (measureSilence now s).trace = s.trace := rfl
@[simp] theorem measureSilence_outputs (now : Millis) : (measureSilence now s).outputs = s.outputs := rfl

/-! `append` -/

@[simp] theorem append_frame (b : Bool) : (append b s).frame = setFrameBit s.frame s.bitCount.toNat b := rfl
@[simp] theorem append_bitCount (b : Bool) : (append b s).bitCount = s.bitCount := rfl
@[simp] theorem append_keyBitCount (b : Bool) : (append b s).keyBitCount = s.keyBitCount := rfl
@[simp] theorem append_accumulatedCode (b : Bool) : (append b s).accumulatedCode = s.accumulatedCode := rfl
@[simp] theorem append_flags (b : Bool) : (append b s).flags = s.flags := rfl
@[simp] theorem append_snapshot (b : Bool) : (append b s).snapshot = s.snapshot := rfl
@[simp] theorem append_firstPending (b : Bool) : (append b s).firstPending = s.firstPending := rfl
@[simp] theorem append_lastTimestamp (b : Bool) : (append b s).lastTimestamp = s.lastTimestamp := rfl
@[simp] theorem append_elapsed (b : Bool) : (append b s).elapsed = s.elapsed := rfl
@[simp] theorem append_config (b : Bool) : (append b s).config = s.config := rfl
@[simp] theorem append_initialised (b : Bool) : (append b s).initialised = s.initialised := rfl
@[simp] theorem append_inputs (b : Bool) : (append b s).inputs = s.inputs := rfl
@[simp] theorem append_trace (b : Bool) : (append b s).trace = s.trace := rfl
@[simp] theorem append_outputs (b : Bool) : (append b s).outputs = s.outputs := rfl

/-! `logicFaultSlot` -/

@[simp] theorem logicFaultSlot_frame : (logicFaultSlot s).frame = s.frame := rfl
@[simp] theorem logicFaultSlot_bitCount : (logicFaultSlot s).bitCount = s.bitCount := rfl
@[simp] theorem logicFaultSlot_keyBitCount : (logicFaultSlot s).keyBitCount = s.keyBitCount := rfl
@[simp] theorem logicFaultSlot_accumulatedCode : (logicFaultSlot s).accumulatedCode = s.accumulatedCode := rfl
@[simp] theorem logicFaultSlot_flags : (logicFaultSlot s).flags = setFlagBit .logicFault s.flags := rfl
@[simp] theorem logicFaultSlot_snapshot : (logicFaultSlot s).snapshot = s.snapshot := rfl
@[simp] theorem logicFaultSlot_firstPending : (logicFaultSlot s).firstPending = s.firstPending := rfl
@[simp] theorem logicFaultSlot_lastTimestamp : (logicFaultSlot s).lastTimestamp = s.lastTimestamp := rfl
@[simp] theorem logicFaultSlot_elapsed : (logicFaultSlot s).elapsed = s.elapsed := rfl
@[simp] theorem logicFaultSlot_config : (logicFaultSlot s).config = s.config := rfl
@[simp] theorem logicFaultSlot_initialised : (logicFaultSlot s).initialised = s.initialised := rfl
@[simp] theorem logicFaultSlot_inputs : (logicFaultSlot s).inputs = s.inputs := rfl
@[simp] theorem logicFaultSlot_trace : (logicFaultSlot s).trace = s.trace := rfl
@[simp] theorem logicFaultSlot_outputs : (logicFaultSlot s).outputs = s.outputs := rfl

/-! `count` -/

@[simp] theorem count_frame : (count s).frame = s.frame := rfl
@[simp] theorem count_bitCount : (count s).bitCount = s.bitCount + 1 := rfl
@[simp] theorem count_keyBitCount : (count s).keyBitCount = if s.config.keypadEnable then s.keyBitCount + 1 else s.keyBitCount := rfl
@[simp] theorem count_accumulatedCode : (count s).accumulatedCode = s.accumulatedCode := rfl
@[simp] theorem count_flags : (count s).flags = s.flags := rfl
@[simp] theorem count_snapshot : (count s).snapshot = s.snapshot := rfl
@[simp] theorem count_firstPending : (count s).firstPending = s.firstPending := rfl
@[simp] theorem count_lastTimestamp : (count s).lastTimestamp = s.lastTimestamp := rfl
@[simp] theorem count_elapsed : (count s).elapsed = s.elapsed := rfl
@[simp] theorem count_config : (count s).config = s.config := rfl
@[simp] theorem count_initialised : (count s).initialised = s.initialised := rfl
@[simp] theorem count_inputs : (count s).inputs = s.inputs := rfl
@[simp] theorem count_trace : (count s).trace = s.trace := rfl
@[simp] theorem count_outputs : (count s).outputs = s.outputs := rfl

/-! `initOperation` -/

@[simp] theorem initOperation_frame (cfg : BitVec 3) (rA rB : Bool) : (initOperation cfg rA rB s).frame = 0 := rfl
@[simp] theorem initOperation_bitCount (cfg : BitVec 3) (rA rB : Bool) : (initOperation cfg rA rB s).bitCount = 0 := rfl
@[simp] theorem initOperation_keyBitCount (cfg : BitVec 3) (rA rB : Bool) : (initOperation cfg rA rB s).keyBitCount = 0 := rfl
@[simp] theorem initOperation_accumulatedCode (cfg : BitVec 3) (rA rB : Bool) : (initOperation cfg rA rB s).accumulatedCode = 0 := rfl
@[simp] theorem initOperation_flags (cfg : BitVec 3) (rA rB : Bool) : (initOperation cfg rA rB s).flags = freshFlags rA rB := rfl
@[simp] theorem initOperation_snapshot (cfg : BitVec 3) (rA rB : Bool) : (initOperation cfg rA rB s).snapshot = 0x00 := rfl
@[simp] theorem initOperation_firstPending (cfg : BitVec 3) (rA rB : Bool) : (initOperation cfg rA rB s).firstPending = true := rfl
@[simp] theorem initOperation_lastTimestamp (cfg : BitVec 3) (rA rB : Bool) : (initOperation cfg rA rB s).lastTimestamp = 0 := rfl
@[simp] theorem initOperation_elapsed (cfg : BitVec 3) (rA rB : Bool) : (initOperation cfg rA rB s).elapsed = 0 := rfl
@[simp] theorem initOperation_config (cfg : BitVec 3) (rA rB : Bool) : (initOperation cfg rA rB s).config = configOf cfg := rfl
@[simp] theorem initOperation_initialised (cfg : BitVec 3) (rA rB : Bool) : (initOperation cfg rA rB s).initialised = true := rfl
@[simp] theorem initOperation_inputs (cfg : BitVec 3) (rA rB : Bool) : (initOperation cfg rA rB s).inputs = s.inputs := rfl
@[simp] theorem initOperation_trace (cfg : BitVec 3) (rA rB : Bool) : (initOperation cfg rA rB s).trace = s.trace := rfl
@[simp] theorem initOperation_outputs (cfg : BitVec 3) (rA rB : Bool) : (initOperation cfg rA rB s).outputs = s.outputs := rfl

end Sys2Proof.Machine
end

