-- ==== Sys2Proof/Laws/Ops.lean ====
section
/-!
SUPPORT. For each shared operation, one lemma that says all it can do. The proofs about an instruction cite these and unfold
nothing below them.
-/
namespace Sys2Proof.Machine

variable {s t : State}

/-- An operation that has a meaning answers a next state, once INIT has been performed (R162). -/
theorem ready_of_initialised (f : State → State) (h : s.initialised = true) : ready f s = .next (f s) := by
  simp [ready, h]

theorem ready_of_not_initialised (f : State → State) (h : s.initialised = false) : ready f s = .refused .beforeInit := by
  simp [ready, h]

theorem ready_eq_next {f : State → State} : ready f s = .next t ↔ s.initialised = true ∧ f s = t := by
  cases h : s.initialised <;> simp [ready, h]

/-- A notify step that does not fire finds the flags equal to the baseline and nothing pending (R123). -/
theorem notifies_eq_false : notifies s = false ↔
    s.firstPending = false ∧ s.flags = s.snapshot ∧ s.config.alwaysSendState = false := by
  simp [notifies, and_assoc]

/-- What a notify step emits from `s` (R123). -/
def notification (s : State) : List Event :=
  if notifies s then [.state s.flags] else []

/-- A notification reads four things and nothing else: the flags, the baseline, `FirstPending` and AlwaysSendState. -/
theorem notification_congr (hf : t.flags = s.flags) (hs : t.snapshot = s.snapshot) (hp : t.firstPending = s.firstPending)
    (hc : t.config = s.config) : notification t = notification s := by
  unfold notification notifies
  rw [hf, hs, hp, hc]

/-- A notify step whole (R123). Whether or not it emits, the baseline afterwards is the byte it compared and nothing is pending:
a byte that is not emitted equals the baseline. -/
theorem notifyStep_eq (s : State) :
    notifyStep s =
      { s with
        flags := if notifies s then 0x00 else s.flags
        snapshot := s.flags
        firstPending := false
        outputs := s.outputs ++ notification s } := by
  unfold notifyStep notification
  cases h : notifies s
  · obtain ⟨h1, h2, -⟩ := notifies_eq_false.mp h
    simp only [Bool.false_eq_true, if_false, List.append_nil]
    cases s
    cases h1
    cases h2
    rfl
  · rfl

/-- The reset procedure whole (R122, R123, R124). -/
theorem resetProc_eq (rA rB : Bool) (s : State) :
    resetProc rA rB s =
      { s with
        frame := 0
        bitCount := 0
        keyBitCount := 0
        flags := freshFlags rA rB
        snapshot := s.flags
        firstPending := false
        outputs := s.outputs ++ notification s } := by
  rw [resetProc, notifyStep_eq]
  rfl

/-- The flags an emission pass sets (R82, R83, R84, R93), on the frame `f` with the count `n`. -/
def passSets (n : BitVec 5) (f : FrameBits) (b : FlagsByte) : FlagsByte :=
  let b1 := if n ≠ 26 then setFlagBit .bitsFault b else b
  let b2 := if firstHalfParity f then setFlagBit .parityFirstFault b1 else b1
  let b3 := if secondHalfParity f then b2 else setFlagBit .paritySecondFault b2
  if paritiesGood f then setFlagBit .dataSent b3 else b3

/-- The payload event of an emission pass (R85, R93), on the frame `f`. -/
def passData (swap : Bool) (f : FrameBits) : List Event :=
  if paritiesGood f then [.data (reorder swap (payloadOf f))] else []

/-- AccumulatedCode after an emission pass (R93), on the frame `f`. -/
def passCode (f : FrameBits) (acc : BitVec 32) : BitVec 32 :=
  if paritiesGood f then 0 else acc

/-- The emission pass whole (R80): it writes the flags, and where the gate opens (R85) it emits the payload and clears
AccumulatedCode (R93); it writes nothing else. -/
theorem emissionPass_eq (s : State) :
    emissionPass s =
      { s with
        flags := passSets s.bitCount s.frame s.flags
        accumulatedCode := passCode s.frame s.accumulatedCode
        outputs := s.outputs ++ passData s.config.byteReorder s.frame } := by
  have e1 : checkBitCount s =
      { s with flags := if s.bitCount ≠ 26 then setFlagBit .bitsFault s.flags else s.flags } := by
    unfold checkBitCount; split <;> rfl
  have e2 (u : State) : checkFirstHalf u =
      { u with flags := if firstHalfParity u.frame then setFlagBit .parityFirstFault u.flags else u.flags } := by
    unfold checkFirstHalf; split <;> rfl
  have e3 (u : State) : checkSecondHalf u =
      { u with flags := if secondHalfParity u.frame then u.flags else setFlagBit .paritySecondFault u.flags } := by
    unfold checkSecondHalf; split <;> rfl
  unfold emissionPass passSets passCode passData
  rw [e1, e2, e3]
  dsimp only
  cases paritiesGood s.frame
  · simp only [Bool.false_eq_true, if_false, List.append_nil]
  · rfl

/-- AccumulatedCode after the key-idle rule (R72), where the silence was `e`. -/
def idleCode (e : Millis) (acc : BitVec 32) : BitVec 32 :=
  if Config.keyIdleMs < e then 0 else acc

/-- The key-idle rule whole (R72). -/
theorem keyIdle_eq (s : State) :
    keyIdle s = { s with accumulatedCode := idleCode s.elapsed s.accumulatedCode } := by
  unfold keyIdle idleCode
  split <;> rfl

theorem gapExpired_iff : gapExpired s = true ↔ Config.frameGapMs < s.elapsed ∧ s.bitCount ≠ 0 := by
  simp [gapExpired]

/-- The frame-gap rule where it fires (R73). -/
theorem frameGap_of_expired (rA rB : Bool) (h : gapExpired s = true) :
    frameGap rA rB s = resetProc rA rB (emissionPass (setFlag .receiveTimeout s)) := by
  simp [frameGap, h]

/-- The frame-gap rule where it does not fire (R73). -/
theorem frameGap_of_quiet (rA rB : Bool) (h : gapExpired s = false) : frameGap rA rB s = s := by
  simp [frameGap, h]

/-- A digit (R104, R106). -/
theorem keyAction_digit {v : KeyValue} (rA rB : Bool) (h : v ≤ Config.lastDigit) :
    keyAction v rA rB s = resetProc rA rB (enterDigit (v.setWidth 4) s) := by
  simp [keyAction, h]

/-- The submit sentinel (R105, R106). -/
theorem keyAction_submit (rA rB : Bool) :
    keyAction Config.submitValue rA rB s = resetProc rA rB (submitCode s) := by
  simp [keyAction, Config.submitValue, Config.lastDigit]

/-- Any other value (R108). -/
theorem keyAction_ignored {v : KeyValue} (rA rB : Bool) (h1 : ¬ v ≤ Config.lastDigit) (h2 : v ≠ Config.submitValue) :
    keyAction v rA rB s = s := by
  simp [keyAction, h1, h2]

/-- What a key value can do: a digit, a submit, or nothing (R45, R100). -/
theorem keyAction_cases (v : KeyValue) (rA rB : Bool) (s : State) :
    (v ≤ Config.lastDigit ∧ keyAction v rA rB s = resetProc rA rB (enterDigit (v.setWidth 4) s)) ∨
    (v = Config.submitValue ∧ keyAction v rA rB s = resetProc rA rB (submitCode s)) ∨
    (¬ v ≤ Config.lastDigit ∧ v ≠ Config.submitValue ∧ keyAction v rA rB s = s) := by
  by_cases h1 : v ≤ Config.lastDigit
  · exact .inl ⟨h1, keyAction_digit rA rB h1⟩
  · by_cases h2 : v = Config.submitValue
    · exact .inr (.inl ⟨h2, h2 ▸ keyAction_submit rA rB⟩)
    · exact .inr (.inr ⟨h1, h2, keyAction_ignored rA rB h1 h2⟩)

/-- The flags after a submit (R105). -/
def submitFlags (acc : BitVec 32) (b : FlagsByte) : FlagsByte :=
  if dispatchable acc then setFlagBit .dataSent b else b

/-- The payload event of a submit (R105). -/
def submitEvents (acc : BitVec 32) : List Event :=
  if dispatchable acc then [.code (acc.setWidth 24)] else []

/-- A submit whole (R105). -/
theorem submitCode_eq (s : State) :
    submitCode s =
      { s with
        accumulatedCode := 0
        flags := submitFlags s.accumulatedCode s.flags
        outputs := s.outputs ++ submitEvents s.accumulatedCode } := by
  unfold submitCode dispatchCode submitFlags submitEvents
  cases dispatchable s.accumulatedCode
  · simp only [Bool.false_eq_true, if_false, List.append_nil]
  · rfl

/-- The sampling of an unambiguous pair (R62). -/
theorem sample_of_ne {a b : Bool} (h : a ≠ b) : sample a b s = append b s := by
  simp [sample, h]

/-- The sampling of an ambiguous pair (R63). -/
theorem sample_of_eq {a b : Bool} (h : a = b) : sample a b s = logicFaultSlot s := by
  simp [sample, h]

theorem keyDue_iff : keyDue s = true ↔ s.config.keypadEnable = true ∧ s.keyBitCount = 8 := by
  simp [keyDue]

theorem frameDue_iff : frameDue s = true ↔ s.bitCount = 26 := by
  simp [frameDue]

/-- Step 5 of BIT where it is due. -/
theorem keyPoint_of_due (decodeKey : Burst → KeyValue) (rA rB : Bool) (h : keyDue s = true) :
    keyPoint decodeKey rA rB s = keyAction (decodeKey (burstBits s.frame)) rA rB { s with keyBitCount := 0 } := by
  simp [keyPoint, h, keyStep]

/-- Step 5 of BIT where it is not due. -/
theorem keyPoint_of_not_due (decodeKey : Burst → KeyValue) (rA rB : Bool) (h : keyDue s = false) :
    keyPoint decodeKey rA rB s = s := by
  simp [keyPoint, h]

/-- Step 6 of BIT where it is due. -/
theorem framePoint_of_due (rA rB : Bool) (h : frameDue s = true) :
    framePoint rA rB s = resetProc rA rB (emissionPass s) := by
  simp [framePoint, h, completeFrame]

/-- Step 6 of BIT where it is not due. -/
theorem framePoint_of_not_due (rA rB : Bool) (h : frameDue s = false) : framePoint rA rB s = s := by
  simp [framePoint, h]

end Sys2Proof.Machine
end

