-- ==== Sys2Proof/Laws/PerInstr.lean ====
section
/-!
SUPPORT. Statements about every instruction as syntax, one lemma per constructor.
-/
namespace Sys2Proof.Laws

/-- The encoder stays inside the opcode table: the word of a well-formed instruction is one that its own row admits
(30_encoding.md R42, R45, R52, R56). -/
def EncodesRow.Statement (i : Instr) : Prop :=
  i.wf = true → i.row (encode i) = true

theorem EncodesRow.init : EncodesRow.Statement .init := fun _ => by decide

theorem EncodesRow.bit0 : EncodesRow.Statement .bit0 := fun _ => by decide

theorem EncodesRow.bit1 : EncodesRow.Statement .bit1 := fun _ => by decide

theorem EncodesRow.bitBoth : EncodesRow.Statement .bitBoth := fun _ => by decide

theorem EncodesRow.bitNone : EncodesRow.Statement .bitNone := fun _ => by decide

theorem EncodesRow.tick : EncodesRow.Statement .tick := fun _ => by decide

theorem EncodesRow.query : EncodesRow.Statement .query := fun _ => by decide

theorem EncodesRow.reset : EncodesRow.Statement .reset := fun _ => by decide

theorem EncodesRow.reserved5 : EncodesRow.Statement .reserved5 := fun _ => by decide

theorem EncodesRow.reserved6 : EncodesRow.Statement .reserved6 := fun _ => by decide

theorem EncodesRow.reserved7 : EncodesRow.Statement .reserved7 := fun _ => by decide

theorem EncodesRow.key0 : EncodesRow.Statement .key0 := fun _ => by decide

theorem EncodesRow.key1 : EncodesRow.Statement .key1 := fun _ => by decide

theorem EncodesRow.key2 : EncodesRow.Statement .key2 := fun _ => by decide

theorem EncodesRow.key3 : EncodesRow.Statement .key3 := fun _ => by decide

theorem EncodesRow.key4 : EncodesRow.Statement .key4 := fun _ => by decide

theorem EncodesRow.key5 : EncodesRow.Statement .key5 := fun _ => by decide

theorem EncodesRow.key6 : EncodesRow.Statement .key6 := fun _ => by decide

theorem EncodesRow.key7 : EncodesRow.Statement .key7 := fun _ => by decide

theorem EncodesRow.key8 : EncodesRow.Statement .key8 := fun _ => by decide

theorem EncodesRow.key9 : EncodesRow.Statement .key9 := fun _ => by decide

theorem EncodesRow.keyIgnored10 : EncodesRow.Statement .keyIgnored10 := fun _ => by decide

theorem EncodesRow.keySubmit : EncodesRow.Statement .keySubmit := fun _ => by decide

theorem EncodesRow.keyIgnored12 : EncodesRow.Statement .keyIgnored12 := fun _ => by decide

theorem EncodesRow.keyIgnored13 : EncodesRow.Statement .keyIgnored13 := fun _ => by decide

theorem EncodesRow.keyIgnored14 : EncodesRow.Statement .keyIgnored14 := fun _ => by decide

theorem EncodesRow.keyIgnored15 : EncodesRow.Statement .keyIgnored15 := fun _ => by decide

theorem EncodesRow.keyMismatch (n1 n2 : BitVec 4) : EncodesRow.Statement (.keyMismatch n1 n2) := by
  intro _
  revert n1 n2
  decide +kernel

theorem EncodesRow.frame26 (p : Bool) (d : BitVec 24) (q : Bool) : EncodesRow.Statement (.frame26 p d q) := by
  intro _
  have hbit : ∀ j, j < 26 → (frameOf p d q).reverse.getLsbD (25 - j) = Machine.frameBit (frameOf p d q) j := fun j hj => by
    rw [BitVec.getLsbD_reverse, BitVec.getMsbD_eq_getLsbD, decide_eq_true (by omega), Bool.true_and]
    exact congrArg _ (by omega)
  have hpay : (List.range 24).all (fun i => (frameOf p d q).reverse.getLsbD (24 - i) == d.getLsbD i) = true := by
    rw [List.all_eq_true]
    intro i hi
    have hi : i < 24 := List.mem_range.mp hi
    have h := hbit (i + 1) (by omega)
    rw [Machine.frameBit_frameOf, if_neg (by omega), if_pos (by omega), Nat.add_sub_cancel,
      show 25 - (i + 1) = 24 - i by omega] at h
    rw [h, beq_self_eq_true]
  have h0 := hbit 0 (by omega)
  have h25 := hbit 25 (by omega)
  rw [Machine.frameBit_frameOf] at h0 h25
  simp only [Instr.row, encode, frameRow, hpay]
  simp_all

end Sys2Proof.Laws
end

