-- ==== Sys2Proof/Laws/Step.lean ====
section
/-!
SUPPORT. Where a step takes its instruction from, and what running one step more means.
-/
namespace Sys2Proof.Machine

variable {s t : State}

/-- Between operations (or before INIT) with no operation requested, there is nothing to fetch (60_exceptions.md R146). -/
theorem fetch_of_no_request (h : s.initialised = false ∨ (keyDue s = false ∧ frameDue s = false)) (ht : s.trace = []) :
    fetch s = none := by
  unfold fetch
  rcases h with h | ⟨h1, h2⟩
  · rw [h, ht]; rfl
  · rw [h1, h2, ht, Bool.and_false]; rfl

/-- Between operations (or before INIT) the next instruction is the one the environment issues next (20_memory.md R35). -/
theorem fetch_of_request {r : Request} {rest : List Request}
    (h : s.initialised = false ∨ (keyDue s = false ∧ frameDue s = false)) (ht : s.trace = r :: rest) :
    fetch s = some (decode (.cmd r.cmd), { s with trace := rest, inputs := r.inputs, outputs := [] }) := by
  unfold fetch
  rcases h with h | ⟨h1, h2⟩
  · rw [h, ht]; rfl
  · rw [h1, h2, ht, Bool.and_false]; rfl

/-- `k + 1` steps are one step and then `k` steps. -/
theorem run_succ_of_next (k : Nat) (h : step s = .next t) :
    Host.Core.run Sys2Proof.core (k + 1) s = Host.Core.run Sys2Proof.core k t := by
  have h : Sys2Proof.core.step s = .next t := h
  simp only [Host.Core.run, h]

end Sys2Proof.Machine
end

