-- ==== Sys2Proof/Tests/Slice0.lean ====
section
/-!
SUPPORT. Tests of the model. Expected values come from the spec: the words from 30_encoding.md R42, R45, R56, the results from
95_test_vectors.md (the vector is named at each test) and the rules' own examples. The theorems whose names begin with
`witness_` show states and operands that meet the hypotheses of a statement.
-/
namespace Sys2Proof.Tests

set_option maxRecDepth 4000

open Sys2Proof.Machine Sys2Proof.Claims

/-! ### Helpers -/

/-- The state an instruction leaves; the state itself where there is none. -/
def after (i : Instr) (s : State) : State :=
  match exec i s with
  | .next t => t
  | .fault _ => s
  | .refused _ => s

/-- The state a step leaves; the state itself where there is none. -/
def stepped (s : State) : State :=
  match step s with
  | .next t => t
  | .fault _ => s
  | .refused _ => s

/-- `n` zero bits into a frame, `gap` ms after the last bit at 1000, in the variant `kp`. -/
def inFrame (kp : Bool) (n : BitVec 5) (gap : BitVec 32) : State :=
  { State.reset with
    bitCount := n
    keyBitCount := if kp then BitVec.ofNat 4 (n.toNat % 8) else 0
    lastTimestamp := 1000
    config := { alwaysSendState := false, byteReorder := false, keypadEnable := kp }
    inputs := { now := 1000 + gap, rA := true, rB := true, cfg := 0 } }

/-- After key 7 of 95_test_vectors.md section 2.6: `Acc` = 7, `Snapshot` = 0x07. -/
def afterSeven : State :=
  { inFrame true 0 300 with accumulatedCode := 7, snapshot := 0x07, firstPending := false }

/-- The standard good card frame `F`, leftmost character first received. -/
def cardF : FrameBits := (0b10110101000101100010010001 : BitVec 26).reverse

/-- Side operands at the time `now`, both lines high. -/
def atTime (now : Millis) : Inputs :=
  { now := now, rA := true, rB := true, cfg := 0 }

/-! ### Well-formedness: the one condition there is -/

theorem test_mismatch_of_equal_windows_refused : (Instr.keyMismatch 5 5).wf = false := by decide
theorem test_mismatch_of_different_windows_accepted : (Instr.keyMismatch 5 4).wf = true := by decide

/-! ### Decoding: one word per constructor, written out from the spec -/

theorem test_decode_init : decode (.cmd 0b00011) = .init := by decide
theorem test_decode_bit0 : decode (.cmd 0b00110) = .bit0 := by decide
theorem test_decode_bit1 : decode (.cmd 0b00101) = .bit1 := by decide
theorem test_decode_bitBoth : decode (.cmd 0b00111) = .bitBoth := by decide
theorem test_decode_bitNone : decode (.cmd 0b00100) = .bitNone := by decide
theorem test_decode_tick : decode (.cmd 0b01001) = .tick := by decide
theorem test_decode_query : decode (.cmd 0b01110) = .query := by decide
theorem test_decode_reset : decode (.cmd 0b10001) = .reset := by decide
theorem test_decode_reserved5 : decode (.cmd 0b10110) = .reserved5 := by decide
theorem test_decode_reserved6 : decode (.cmd 0b11001) = .reserved6 := by decide
theorem test_decode_reserved7 : decode (.cmd 0b11111) = .reserved7 := by decide
theorem test_decode_key0 : decode (.key8 0b00000000) = .key0 := by decide
theorem test_decode_key1 : decode (.key8 0b10001000) = .key1 := by decide
theorem test_decode_key2 : decode (.key8 0b01000100) = .key2 := by decide
theorem test_decode_key3 : decode (.key8 0b11001100) = .key3 := by decide
theorem test_decode_key4 : decode (.key8 0b00100010) = .key4 := by decide
theorem test_decode_key5 : decode (.key8 0b10101010) = .key5 := by decide
theorem test_decode_key6 : decode (.key8 0b01100110) = .key6 := by decide
theorem test_decode_key7 : decode (.key8 0b11101110) = .key7 := by decide
theorem test_decode_key8 : decode (.key8 0b00010001) = .key8 := by decide
theorem test_decode_key9 : decode (.key8 0b10011001) = .key9 := by decide
theorem test_decode_keyIgnored10 : decode (.key8 0b01010101) = .keyIgnored10 := by decide
theorem test_decode_keySubmit : decode (.key8 0b11011101) = .keySubmit := by decide
theorem test_decode_keyIgnored12 : decode (.key8 0b00110011) = .keyIgnored12 := by decide
theorem test_decode_keyIgnored13 : decode (.key8 0b10111011) = .keyIgnored13 := by decide
theorem test_decode_keyIgnored14 : decode (.key8 0b01110111) = .keyIgnored14 := by decide
theorem test_decode_keyIgnored15 : decode (.key8 0b11111111) = .keyIgnored15 := by decide
/-- R101: windows 3 and 1. -/
theorem test_decode_keyMismatch : decode (.key8 0b11001000) = .keyMismatch 3 1 := by decide
/-- V30.6: payload 0x000001 is `11000000000000000000000001`. -/
theorem test_decode_frame26_low : decode (.frame26 0b11000000000000000000000001) = .frame26 true 0x000001 true := by
  decide
/-- V30.7: payload 0x800000 is `00000000000000000000000010`. -/
theorem test_decode_frame26_high : decode (.frame26 0b00000000000000000000000010) = .frame26 false 0x800000 false := by
  decide

/-! ### Decoding bytes -/

theorem test_bytes_cmd : decodeBytes .cmd [0x0C] = .ok .query := by decide
theorem test_bytes_cmd_stray : decodeBytes .cmd [0x20] = .error (.strayBits .cmd) := by decide
theorem test_bytes_none : decodeBytes .key8 [] = .error (.wrongLength .key8) := by decide
theorem test_bytes_frame_short : decodeBytes .frame26 [0x91, 0x58] = .error (.wrongLength .frame26) := by decide
theorem test_bytes_frame_stray : decodeBytes .frame26 [0, 0, 0, 0x04] = .error (.strayBits .frame26) := by decide

/-! ### The opcode table's numbering, and a step that runs a placed word from reset -/

theorem test_table_query : decodeTableWord 8 0x0C = some .query := by decide
theorem test_table_key8 : decodeTableWord 8 0x11 = some .key8 := by decide
theorem test_table_key9 : decodeTableWord 8 0x99 = some .key9 := by decide
theorem test_table_frame : decodeTableWord 32 0x2D45891 = some (.frame26 true 0x123456 true) := by decide
theorem test_place_query : (stepped (State.reset.withFetchWord 8 0x0C)).outputs = [.state 0x05] := by decide
theorem test_place_key3 : (stepped (State.reset.withFetchWord 8 0b11001100)).accumulatedCode = 3 := by decide
theorem test_place_frame : (stepped (State.reset.withFetchWord 32 0x2D45891)).outputs = [.data 0x123456, .state 0x07] := by
  decide

/-! ### The trace notation (R55) -/

/-- P2: `BITS 11001100` is `00101 00101 00110 00110 00101 00101 00110 00110`. -/
theorem test_notation_bits :
    ((TraceLine.bits [.lineB, .lineB, .lineA, .lineA, .lineB, .lineB, .lineA, .lineA] 1000 2 true true).requests.map
      fun r => r.cmd) = [0b00101, 0b00101, 0b00110, 0b00110, 0b00101, 0b00101, 0b00110, 0b00110] := by decide
theorem test_notation_times :
    ((TraceLine.bits [.both, .neither, .lineA] 1000 2 true true).requests.map fun r => r.inputs.now) =
      [1000, 1002, 1004] := by decide

/-! ### One step of each instruction -/

/-- V70.5: `cfg` = 111. -/
theorem test_init_config :
    (after .init { afterSeven with inputs := { atTime 0 with cfg := 0b111 } }).config = ⟨true, true, true⟩ := by decide
/-- V70.3: line A low at INIT. -/
theorem test_init_line_low : (after .init { afterSeven with inputs := { atTime 0 with rA := false } }).flags = 0x01 := by
  decide
/-- V40.2: a 0 leaves the buffer as it is, and counts. -/
theorem test_bit0 : (after .bit0 (inFrame false 0 0)).frame = 0 ∧ (after .bit0 (inFrame false 0 0)).bitCount = 1 := by
  decide
/-- V40.1: the first bit is `Frame[0]`; no timeout, though 1000 ms passed. -/
theorem test_bit1 :
    (after .bit1 { State.reset with inputs := atTime 1000 }).frame = 1 ∧
      (after .bit1 { State.reset with inputs := atTime 1000 }).lastTimestamp = 1000 ∧
      (after .bit1 { State.reset with inputs := atTime 1000 }).outputs = [] := by decide
/-- V40.11: the gap of 21 ms closes the old frame `1011`, the bit starts a new one. -/
theorem test_bit1_after_silence :
    (after .bit1 { inFrame false 4 21 with frame := 0b1101 }).outputs = [.state 0xF5] ∧
      (after .bit1 { inFrame false 4 21 with frame := 0b1101 }).frame = 1 ∧
      (after .bit1 { inFrame false 4 21 with frame := 0b1101 }).bitCount = 1 := by decide
/-- V40.3. -/
theorem test_bitBoth :
    (after .bitBoth (inFrame false 5 2)).flags = 0x0D ∧ (after .bitBoth (inFrame false 5 2)).bitCount = 6 := by decide
/-- V40.9: the eighth of eight ambiguous events is key 0. -/
theorem test_bitBoth_eighth :
    (after .bitBoth { inFrame true 7 2 with flags := 0x0D }).outputs = [.digit 0, .state 0x0F] := by decide
/-- V40.4. -/
theorem test_bitNone :
    (after .bitNone (inFrame false 5 2)).flags = 0x0D ∧ (after .bitNone (inFrame false 5 2)).frame = 0 := by decide
/-- V40.8: the 26th of 26 ambiguous events. -/
theorem test_bitNone_last :
    (after .bitNone { inFrame false 25 2 with flags := 0x0D }).outputs = [.state 0x8D] := by decide
/-- V41.4: `101` closed by a TICK 21 ms after its last bit; LastTimestamp is not moved. -/
theorem test_tick :
    (after .tick { inFrame false 3 21 with frame := 0b101 }).outputs = [.state 0xB5] ∧
      (after .tick { inFrame false 3 21 with frame := 0b101 }).lastTimestamp = 1000 := by decide
/-- V41.8: 5000 ms keep the code, 5001 ms drop it. -/
theorem test_tick_key_idle :
    (after .tick { inFrame true 0 5000 with accumulatedCode := 31 }).accumulatedCode = 31 ∧
      (after .tick { inFrame true 0 5001 with accumulatedCode := 31 }).accumulatedCode = 0 := by decide
/-- V45.1. -/
theorem test_query : (after .query State.reset).outputs = [.state 0x05] ∧ (after .query State.reset).firstPending = true := by
  decide
/-- V45.10: the frame in progress is dropped without an emission pass. -/
theorem test_reset :
    (after .reset { inFrame false 5 2 with frame := 0b10001, flags := 0x0D }).outputs = [.state 0x0D] ∧
      (after .reset { inFrame false 5 2 with frame := 0b10001, flags := 0x0D }).flags = 0x05 := by decide
/-- V45.5: the byte compared is still 0x05; the low line shows one cycle later. -/
theorem test_reset_line_low :
    (after .reset { afterSeven with snapshot := 0x05, inputs := { atTime 0 with rA := false } }).outputs = [] ∧
      (after .reset { afterSeven with snapshot := 0x05, inputs := { atTime 0 with rA := false } }).flags = 0x01 := by decide
theorem test_reserved5 : exec .reserved5 State.reset = .refused (.reservedSelector 5) := by rfl
theorem test_reserved6 : exec .reserved6 State.reset = .refused (.reservedSelector 6) := by rfl
theorem test_reserved7 : exec .reserved7 State.reset = .refused (.reservedSelector 7) := by rfl
/-- V44.0 to V44.9: each digit after key 7. -/
theorem test_key0 : (after .key0 afterSeven).accumulatedCode = 70 ∧ (after .key0 afterSeven).outputs = [.digit 0] := by decide
theorem test_key1 : (after .key1 afterSeven).accumulatedCode = 71 ∧ (after .key1 afterSeven).outputs = [.digit 1] := by decide
theorem test_key2 : (after .key2 afterSeven).accumulatedCode = 72 ∧ (after .key2 afterSeven).outputs = [.digit 2] := by decide
theorem test_key3 : (after .key3 afterSeven).accumulatedCode = 73 ∧ (after .key3 afterSeven).outputs = [.digit 3] := by decide
theorem test_key4 : (after .key4 afterSeven).accumulatedCode = 74 ∧ (after .key4 afterSeven).outputs = [.digit 4] := by decide
theorem test_key5 : (after .key5 afterSeven).accumulatedCode = 75 ∧ (after .key5 afterSeven).outputs = [.digit 5] := by decide
/-- V44.24: the decimal step wraps modulo 2^32. -/
theorem test_key6_wraps : (after .key6 { afterSeven with accumulatedCode := 0xFFFFFFFF }).accumulatedCode = 0xFFFFFFFC := by
  decide
theorem test_key7 : (after .key7 afterSeven).accumulatedCode = 77 ∧ (after .key7 afterSeven).outputs = [.digit 7] := by decide
theorem test_key8 : (after .key8 afterSeven).accumulatedCode = 78 ∧ (after .key8 afterSeven).outputs = [.digit 8] := by decide
theorem test_key9 : (after .key9 afterSeven).accumulatedCode = 79 ∧ (after .key9 afterSeven).outputs = [.digit 9] := by decide
/-- V44.11. -/
theorem test_keySubmit :
    (after .keySubmit afterSeven).outputs = [.code 7] ∧ (after .keySubmit afterSeven).accumulatedCode = 0 := by decide
/-- V44.22: 0x1000000 is dropped silently; the byte 0x05 differs from the baseline 0x07. -/
theorem test_keySubmit_too_large :
    (after .keySubmit { afterSeven with accumulatedCode := 0x1000000 }).outputs = [.state 0x05] := by decide
/-- V44.10, V44.12 to V44.15: an ignored value leaves code and count alone. -/
theorem test_keyIgnored10 : after .keyIgnored10 (inFrame true 8 2) = inFrame true 8 2 := by decide
theorem test_keyIgnored12 : after .keyIgnored12 (inFrame true 8 2) = inFrame true 8 2 := by decide
theorem test_keyIgnored13 : after .keyIgnored13 (inFrame true 8 2) = inFrame true 8 2 := by decide
theorem test_keyIgnored14 : after .keyIgnored14 (inFrame true 8 2) = inFrame true 8 2 := by decide
theorem test_keyIgnored15 : after .keyIgnored15 (inFrame true 8 2) = inFrame true 8 2 := by decide
/-- V44.16. -/
theorem test_keyMismatch : after (.keyMismatch 3 1) (inFrame true 8 2) = inFrame true 8 2 := by decide
/-- V43.9: the card `F` with the byte reorder on. -/
theorem test_frame26_reorder :
    (after (.frame26 true 0x123456 true) { State.reset with config := ⟨false, true, false⟩ }).outputs =
      [.data 0x563412, .state 0x07] := by decide
/-- V42.6: both parities wrong. -/
theorem test_frame26_bad : (after (.frame26 true 0 false) State.reset).outputs = [.state 0xC5] := by decide

/-! ### Witnesses: states and operands that meet the hypotheses of the statements -/

theorem witness_DecodeInvertsEncode : (Instr.keyMismatch 15 0).wf = true ∧ (Instr.frame26 true 0xFFFFFF false).wf = true := by
  decide

theorem witness_DecoderReadsTheOpcodeTable :
    (Instr.keyMismatch 15 0).wf = true ∧ (Instr.keyMismatch 15 0).row (.key8 0b11110000) = true := by decide

/-- Agreeing windows, and windows that differ in the last position only. -/
theorem witness_KeyDecodeWeighsEarlierBitsLess :
    (∀ k, k < 4 → (0b10011001 : Burst).getLsbD k = (0b10011001 : Burst).getLsbD (k + 4)) ∧
      ∃ k, k < 4 ∧ (0b00011001 : Burst).getLsbD k ≠ (0b00011001 : Burst).getLsbD (k + 4) := by
  constructor
  · decide
  · exact ⟨3, by decide⟩

/-- Both disjuncts: before INIT with a key step due, and after it with none due. -/
theorem witness_StepRunsTheRequestedOperation :
    ({ inFrame true 8 2 with keyBitCount := 8, initialised := false } : State).initialised = false ∧
      (keyDue (inFrame true 24 2) = false ∧ frameDue (inFrame true 24 2) = false) ∧
      ({ inFrame true 24 2 with trace := [⟨0b10000, atTime 0⟩] } : State).trace = [⟨0b10000, atTime 0⟩] := by decide

theorem witness_StepRunsTheDueDataEncoding :
    (State.reset.withFetchWord 8 0x99).initialised = true ∧ keyDue (State.reset.withFetchWord 8 0x99) = true ∧
      keyDue (State.reset.withFetchWord 32 0x2D45891) = false ∧ frameDue (State.reset.withFetchWord 32 0x2D45891) = true ∧
      State.reset.trace = [] := by decide

theorem witness_InitWritesEveryElement : selectorOf 0b00000 = 0 ∧ selectorOf 0b00011 = 0 := by decide

theorem witness_ResetStateIsTheStateAfterInit :
    (inFrame true 7 21).inputs.cfg = 0 ∧ (inFrame true 7 21).inputs.rA = true ∧ (inFrame true 7 21).inputs.rB = true := by
  decide

theorem witness_NothingButInitRunsBeforeInit : ({ inFrame true 7 21 with initialised := false } : State).initialised = false := by
  decide

theorem witness_ReservedSelectorsAreRefused :
    selectorOf 0b10100 = 5 ∧ selectorOf 0b10111 = 5 ∧ selectorOf 0b11011 = 6 ∧ selectorOf 0b11111 = 7 := by decide

theorem witness_QueryEmitsFlagsAndChangesNothing : selectorOf 0b01111 = 3 ∧ (inFrame true 7 21).initialised = true := by decide

theorem witness_ResetEndsTheCycleUnjudged : selectorOf 0b10011 = 4 ∧ (inFrame true 7 21).initialised = true := by decide

/-- At the boundary of the frame gap with a frame in progress, and beyond both thresholds without one. -/
theorem witness_TickWithoutFrameGap :
    selectorOf 0b01011 = 2 ∧ ¬ silent (inFrame false 1 20) ∧ ¬ silent (inFrame true 0 5001) := by
  unfold silent gap; decide

theorem witness_TickClosesASilentFrame : silent (inFrame false 1 21) ∧ silent (inFrame true 25 5001) := by
  unfold silent gap; decide

/-- The last slot before completion, and the last count before a key decode. -/
theorem witness_BitAppendsAndCounts :
    ¬ silent (inFrame false 24 20) ∧ (inFrame false 24 20).bitCount ≠ 25 ∧ (inFrame false 24 20).config.keypadEnable = false ∧
      ¬ silent (inFrame true 22 20) ∧ (inFrame true 22 20).bitCount ≠ 25 ∧ (inFrame true 22 20).keyBitCount ≠ 7 := by
  unfold silent gap; decide

theorem witness_AmbiguousBitSetsLogicFaultAndCounts :
    ¬ silent (inFrame true 24 20) ∧ (inFrame true 24 20).bitCount ≠ 25 ∧ (inFrame true 24 20).keyBitCount ≠ 7 := by
  unfold silent gap; decide

theorem witness_BitAfterSilenceStartsANewFrame :
    silent (inFrame true 7 21) ∧ ∃ u, exec .tick (inFrame true 7 21) = .next u := by
  refine ⟨?_, _, rfl⟩
  unfold silent gap; decide

theorem witness_TwentySixthBitJudgesTheFrame :
    ¬ silent (inFrame true 25 20) ∧ (inFrame true 25 20).bitCount = 25 ∧ (inFrame true 25 20).keyBitCount ≠ 7 := by
  unfold silent gap; decide

theorem witness_EighthBitRunsTheKeyRow :
    ¬ silent (inFrame true 7 20) ∧ (inFrame true 7 20).bitCount ≠ 25 ∧ (inFrame true 7 20).keyBitCount = 7 ∧
      ¬ silent (inFrame true 23 20) ∧ (inFrame true 23 20).bitCount ≠ 25 ∧ (inFrame true 23 20).keyBitCount = 7 := by
  unfold silent gap; decide

theorem witness_CompletingBitRunsTheFrameRow :
    ¬ silent (inFrame false 25 20) ∧ (inFrame false 25 20).bitCount = 25 ∧ (inFrame false 25 20).config.keypadEnable = false := by
  unfold silent gap; decide

theorem witness_EveryBitEventCompletes : (inFrame true 23 21).initialised = true := by decide

theorem witness_ReceivedFrameIsJudgedByItsParities : Holds true 0x123456 true cardF := by
  unfold Holds; decide

/-- A frame with good parities, one with the first wrong, one with the second wrong; each cycle's flags start clean. -/
theorem witness_PassEmitsIffNoParityFault :
    hasFlag .dataSent (inFrame false 25 2).flags = false ∧ hasFlag .parityFirstFault (inFrame false 25 2).flags = false ∧
      hasFlag .paritySecondFault (inFrame false 25 2).flags = false := by decide

theorem witness_DigitExtendsTheCode : afterSeven.initialised = true ∧ afterSeven.config.keypadEnable = true := by decide

/-- The ends of the range a submit dispatches, and the values next to them. -/
theorem witness_SubmitDispatchesAndClears :
    sends { afterSeven with accumulatedCode := 1 } ∧ sends { afterSeven with accumulatedCode := 0xFFFFFF } ∧
      ¬ sends { afterSeven with accumulatedCode := 0 } ∧ ¬ sends { afterSeven with accumulatedCode := 0x1000000 } := by
  unfold sends; decide

theorem witness_IgnoredKeysChangeNothing : afterSeven.initialised = true ∧ (0 : BitVec 4) ≠ 15 := by decide

theorem witness_DisabledKeypadIgnoresEveryKey :
    (inFrame false 8 2).initialised = true ∧ (inFrame false 8 2).config.keypadEnable = false := by decide

/-- Two decode functions that agree on the burst in hand; and the ignored values next to the digits and the submit. -/
theorem witness_KeyStepDependsOnTheDecodedValue :
    keyDecode (burstBits afterSeven.frame) = (fun b => b.setWidth 8 : Burst → KeyValue) (burstBits afterSeven.frame) ∧
      ignoredValue 10 ∧ ignoredValue 12 ∧ ignoredValue 0xFF := by
  unfold ignoredValue; decide

/-- Each clause on an instruction has a next state: a digit, a submit, a good and a bad frame, RESET, QUERY, an ignored key, a
mismatch, a TICK, INIT. -/
theorem witness_KeyFsmTransitions :
    afterSeven.config.keypadEnable = true ∧ (∃ t, exec (digitRow 0) afterSeven = .next t) ∧
      (∃ t, exec .keySubmit afterSeven = .next t) ∧ (∃ t, exec (.frame26 true 0x123456 true) afterSeven = .next t) ∧
      (∃ t, exec (.frame26 false 0x123456 true) afterSeven = .next t) ∧ (∃ t, exec .reset afterSeven = .next t) ∧
      (∃ t, exec .query afterSeven = .next t) ∧ (∃ t, exec .keyIgnored15 afterSeven = .next t) ∧
      (∃ t, exec (.keyMismatch 3 1) afterSeven = .next t) ∧ (∃ t, exec .tick afterSeven = .next t) ∧
      ∃ t, exec .init afterSeven = .next t :=
  ⟨rfl, ⟨_, rfl⟩, ⟨_, rfl⟩, ⟨_, rfl⟩, ⟨_, rfl⟩, ⟨_, rfl⟩, ⟨_, rfl⟩, ⟨_, rfl⟩, ⟨_, rfl⟩, ⟨_, rfl⟩, ⟨_, rfl⟩⟩

/-- The four cases of a BIT, each with a next state: at 21 ms with a frame in progress, and at 20 ms at counts 24, 25 and 23. -/
theorem witness_BitMovesFsm :
    (silent (inFrame true 1 21) ∧ ∃ t, exec (bitRow false true) (inFrame true 1 21) = .next t) ∧
      ((¬ silent (inFrame true 24 20) ∧ (inFrame true 24 20).bitCount ≠ 25 ∧ (inFrame true 24 20).keyBitCount ≠ 7) ∧
        ∃ t, exec (bitRow true true) (inFrame true 24 20) = .next t) ∧
      ((¬ silent (inFrame true 25 20) ∧ (inFrame true 25 20).bitCount = 25 ∧ (inFrame true 25 20).keyBitCount ≠ 7) ∧
        ∃ t, exec (bitRow false true) (inFrame true 25 20) = .next t) ∧
      (¬ silent (inFrame true 23 20) ∧ (inFrame true 23 20).bitCount ≠ 25 ∧ (inFrame true 23 20).keyBitCount = 7) ∧
        ∃ t, exec (bitRow true false) (inFrame true 23 20) = .next t := by
  unfold silent gap
  exact ⟨⟨by decide, _, rfl⟩, ⟨by decide, _, rfl⟩, ⟨by decide, _, rfl⟩, by decide, _, rfl⟩

/-- Accumulating keeps through a frame gap without data, and ends by the key-idle timeout (R107; V41.8, V41.9). -/
theorem witness_timedFsm :
    keyFsm afterSeven = .accumulating ∧ timedFsm { inFrame true 3 21 with frame := 0b101, accumulatedCode := 7 } = .accumulating ∧
      timedFsm { inFrame true 0 5000 with accumulatedCode := 7 } = .accumulating ∧
      timedFsm { inFrame true 0 5001 with accumulatedCode := 7 } = .idle ∧
      timedFsm { inFrame true 14 21 with frame := 0b10000000000000, accumulatedCode := 7 } = .idle := by decide

theorem witness_EnteredDigitsAreSubmittedAsDecimal :
    (inFrame true 0 300).initialised = true ∧ (inFrame true 0 300).config.keypadEnable = true ∧
      (inFrame true 0 300).accumulatedCode = 0 := by decide

theorem witness_InitEstablishesInvariants : ∃ t, exec .init { inFrame true 26 21 with initialised := false } = .next t :=
  ⟨_, rfl⟩

/-- The invariants hold at both ends of a frame in both variants. -/
theorem witness_invariants :
    Inv (inFrame true 0 0) ∧ Inv (inFrame true 25 20) ∧ Inv (inFrame false 25 21) ∧ Inv afterSeven := by decide

theorem witness_EveryStepKeepsInvariants :
    Inv { inFrame true 25 20 with trace := [bitRequest true (atTime 1021)] } ∧
      ∃ t, step { inFrame true 25 20 with trace := [bitRequest true (atTime 1021)] } = .next t :=
  ⟨by decide, _, rfl⟩

theorem witness_BitKeepsInvariantsForEveryKeyDecode : Inv (inFrame true 7 20) := by decide

/-- The largest selector that names an operation. -/
theorem witness_SerializedTraceNeverStops :
    Inv { inFrame true 7 2 with trace := [⟨0b10011, atTime 0⟩] } ∧
      ∀ r ∈ ({ inFrame true 7 2 with trace := [⟨0b10011, atTime 0⟩] } : State).trace, Legal r := by decide

/-- A frame of eight bits whose burst is the ignored key 10. -/
theorem witness_SurvivingFramesHoldIgnoredBursts :
    Inv { inFrame true 8 2 with frame := 0b10101010, trace := [bitRequest true (atTime 1002)] } ∧
      (∃ t, step { inFrame true 8 2 with frame := 0b10101010, trace := [bitRequest true (atTime 1002)] } = .next t) ∧
      ignoredValue (keyDecode (burstBits 0b10101010)) := by
  refine ⟨by decide, ⟨_, rfl⟩, ?_⟩
  unfold ignoredValue; decide

theorem witness_LogicFaultRecordsAmbiguousBits :
    Inv { inFrame true 7 20 with flags := 0x0D } ∧ isBit .bitBoth = true ∧ hasFlag .logicFault 0x0D = true ∧
      ∃ t, exec .bitBoth { inFrame true 7 20 with flags := 0x0D } = .next t :=
  ⟨by decide, rfl, rfl, _, rfl⟩

theorem witness_OnlyInitChangesConfiguration : Instr.tick ≠ .init ∧ ∃ t, exec .tick (inFrame true 7 21) = .next t :=
  ⟨by decide, _, rfl⟩

theorem witness_OnlyBitEventsMoveLastTimestamp :
    Instr.reset ≠ .init ∧ isBit .reset = false ∧ Instr.reset ≠ .tick ∧ ∃ t, exec .reset (inFrame true 7 21) = .next t :=
  ⟨by decide, rfl, by decide, _, rfl⟩

theorem witness_SnapshotChangesOnlyWhenEmitted :
    (∃ t, exec .reset (inFrame true 7 21) = .next t) ∧
      (after .reset (inFrame true 7 21)).snapshot ≠ (inFrame true 7 21).snapshot :=
  ⟨⟨_, rfl⟩, by decide⟩

theorem witness_OperationOutputShape :
    Inv { inFrame false 25 20 with trace := [⟨0b01000, atTime 1021⟩] } ∧
      ({ inFrame false 25 20 with trace := [⟨0b01000, atTime 1021⟩] } : State).trace ≠ [] ∧
      ∃ t, step { inFrame false 25 20 with trace := [⟨0b01000, atTime 1021⟩] } = .next t :=
  ⟨by decide, by decide, _, rfl⟩

/-- A step whose output list is not empty. -/
theorem witness_ChannelValuesAndStateBytes :
    Inv { inFrame false 25 20 with trace := [⟨0b01000, atTime 1021⟩] } ∧
      .state 0xB5 ∈ (stepped { inFrame false 25 20 with trace := [⟨0b01000, atTime 1021⟩] }).outputs := by decide

theorem witness_BasicVariantHasNoKeyEvents :
    (inFrame false 25 2).config.keypadEnable = false ∧ (inFrame false 25 2).accumulatedCode = 0 ∧
      ∃ t, exec .bit1 (inFrame false 25 2) = .next t :=
  ⟨rfl, rfl, _, rfl⟩

/-- Gaps of exactly 20 ms. -/
def spacedInputs (k : Nat) : Inputs :=
  atTime (BitVec.ofNat 32 (1000 + 20 * k))

theorem witness_Spaced : Spaced 26 spacedInputs := by
  have h : ∀ k, k < 25 → ((spacedInputs (k + 1)).now - (spacedInputs k).now).toNat ≤ 20 := by decide
  exact fun k hk => h k (by omega)

/-- The card `F` in the extended variant: its first eight bits select no key action. -/
theorem witness_TwentySixBitsAreOneCardRead :
    Inv { inFrame true 0 300 with trace := bitTrace 26 (frameBit cardF) spacedInputs } ∧
      ({ inFrame true 0 300 with trace := bitTrace 26 (frameBit cardF) spacedInputs } : State).bitCount = 0 ∧
      ignoredValue (keyDecode (burstBits cardF)) := by
  refine ⟨by decide, rfl, ?_⟩
  unfold ignoredValue; decide

/-- A digit, the submit, and an ignored burst. -/
theorem witness_EightBitsAreOneKeystroke :
    Inv { inFrame true 0 300 with trace := bitTrace 8 (0b10011001 : Burst).getLsbD spacedInputs } ∧ Spaced 8 spacedInputs ∧
      (keyDecode 0b10011001).toNat ≤ 9 ∧ (keyDecode 0b10111011).toNat = 11 ∧ ignoredValue (keyDecode 0b10101010) := by
  refine ⟨by decide, fun k hk => witness_Spaced k (by omega), by decide, by decide, ?_⟩
  unfold ignoredValue; decide

end Sys2Proof.Tests
end

section
/-!
# What an instruction can write

Every instruction but INIT is a chain of a few elementary updates, after the clock's two elements have been written where the
instruction writes them. A relation that these updates keep is kept by every instruction: the statements about the
configuration, the clock, the baseline and the basic variant are inductions over the chain.
-/
namespace Sys2Proof.Machine

open Sys2Proof.Claims

/-- An elementary update of the block: what one rule of the spec writes, LastTimestamp and Elapsed apart. -/
inductive Update : State → State → Prop where
  /-- The elements that belong to the cycle in progress (R11, R12, R13, R15). -/
  | cycle (s : State) (f : FrameBits) (n : BitVec 5) (k : BitVec 4) (b : FlagsByte) :
      Update s { s with frame := f, bitCount := n, keyBitCount := k, flags := b }
  /-- AccumulatedCode is dropped (R72, R93, R105). -/
  | clearCode (s : State) : Update s { s with accumulatedCode := 0 }
  /-- A payload goes out (R93). -/
  | data (s : State) (v : Payload) : Update s (emit (.data v) s)
  /-- A digit extends the code and goes out (R104), in the extended variant only. -/
  | digit (s : State) (v : BitVec 4) (keypad : s.config.keypadEnable = true) :
      Update s (emit (.digit v) { s with accumulatedCode := decimalStep s.accumulatedCode v })
  /-- A submitted code goes out (R105), in the extended variant only. -/
  | code (s : State) (v : Payload) (keypad : s.config.keypadEnable = true) : Update s (emit (.code v) s)
  /-- A notify step fires (R123). -/
  | notify (s : State) :
      Update s { emit (.state s.flags) s with snapshot := s.flags, flags := 0x00, firstPending := false }
  /-- The state query (R127). -/
  | query (s : State) : Update s (emit (.state s.flags) s)

/-- A chain of elementary updates. -/
abbrev Updates : State → State → Prop := Relation.ReflTransGen Update

/-! ### The shared operations are chains of updates -/

theorem updates_setFlag (f : Flag) (s : State) : Updates s (setFlag f s) :=
  .single (.cycle s s.frame s.bitCount s.keyBitCount (setFlagBit f s.flags))

theorem updates_notifyStep (s : State) : Updates s (notifyStep s) := by
  unfold notifyStep
  split
  · exact .single (.notify s)
  · exact .refl

theorem updates_resetStep (rA rB : Bool) (s : State) : Updates s (resetStep rA rB s) :=
  .single (.cycle s 0 0 0 (freshFlags rA rB))

theorem updates_resetProc (rA rB : Bool) (s : State) : Updates s (resetProc rA rB s) :=
  (updates_notifyStep s).trans (updates_resetStep rA rB (notifyStep s))

theorem updates_dataEmit (s : State) : Updates s (dataEmit s) := by
  have emitted : Updates s (emit (.data (reorder s.config.byteReorder (payloadOf s.frame))) s) := .single (.data s _)
  exact (emitted.trans (updates_setFlag .dataSent _)).tail (.clearCode _)

theorem updates_checkBitCount (s : State) : Updates s (checkBitCount s) := by
  unfold checkBitCount
  split
  · exact updates_setFlag .bitsFault s
  · exact .refl

theorem updates_checkFirstHalf (s : State) : Updates s (checkFirstHalf s) := by
  unfold checkFirstHalf
  split
  · exact updates_setFlag .parityFirstFault s
  · exact .refl

theorem updates_checkSecondHalf (s : State) : Updates s (checkSecondHalf s) := by
  unfold checkSecondHalf
  split
  · exact .refl
  · exact updates_setFlag .paritySecondFault s

theorem updates_emissionPass (s : State) : Updates s (emissionPass s) := by
  have checked : Updates s (checkSecondHalf (checkFirstHalf (checkBitCount s))) :=
    ((updates_checkBitCount s).trans (updates_checkFirstHalf _)).trans (updates_checkSecondHalf _)
  unfold emissionPass
  dsimp only
  split
  · exact checked.trans (updates_dataEmit _)
  · exact checked

theorem updates_completeFrame (rA rB : Bool) (s : State) : Updates s (completeFrame rA rB s) :=
  (updates_emissionPass s).trans (updates_resetProc rA rB _)

theorem updates_keyIdle (s : State) : Updates s (keyIdle s) := by
  unfold keyIdle
  split
  · exact .single (.clearCode s)
  · exact .refl

theorem updates_frameGap (rA rB : Bool) (s : State) : Updates s (frameGap rA rB s) := by
  unfold frameGap
  split
  · exact (updates_setFlag .receiveTimeout s).trans (updates_completeFrame rA rB _)
  · exact .refl

theorem updates_timeCheck (rA rB : Bool) (s : State) : Updates s (timeCheck rA rB s) :=
  (updates_keyIdle s).trans (updates_frameGap rA rB _)

theorem updates_sample (a b : Bool) (s : State) : Updates s (sample a b s) := by
  unfold sample
  split
  · exact .single (.cycle s (setFrameBit s.frame s.bitCount.toNat b) s.bitCount s.keyBitCount s.flags)
  · exact updates_setFlag .logicFault s

theorem updates_count (s : State) : Updates s (count s) :=
  .single (.cycle s s.frame (s.bitCount + 1) _ s.flags)

section Keypad

variable {s : State} (keypad : s.config.keypadEnable = true)
include keypad

theorem updates_enterDigit (v : BitVec 4) : Updates s (enterDigit v s) := by
  have entered : Updates s (emit (.digit v) { s with accumulatedCode := decimalStep s.accumulatedCode v }) :=
    .single (.digit s v keypad)
  exact entered.trans (updates_setFlag .dataSent _)

theorem updates_dispatchCode : Updates s (dispatchCode s) := by
  unfold dispatchCode
  split
  · have sent : Updates s (emit (.code (s.accumulatedCode.setWidth 24)) s) := .single (.code s _ keypad)
    exact sent.trans (updates_setFlag .dataSent _)
  · exact .refl

theorem updates_submitCode : Updates s (submitCode s) :=
  (updates_dispatchCode keypad).tail (.clearCode _)

/-- A key value ends the cycle, or it is ignored (R106, R108). -/
theorem keyAction_ends_or_ignores (v : KeyValue) (rA rB : Bool) :
    (∃ u, Updates s u ∧ keyAction v rA rB s = resetProc rA rB u) ∨ keyAction v rA rB s = s := by
  rcases keyAction_cases v rA rB s with ⟨-, digit⟩ | ⟨-, submit⟩ | ⟨-, -, ignored⟩
  · exact .inl ⟨_, updates_enterDigit keypad _, digit⟩
  · exact .inl ⟨_, updates_submitCode keypad, submit⟩
  · exact .inr ignored

theorem updates_keyAction (v : KeyValue) (rA rB : Bool) : Updates s (keyAction v rA rB s) := by
  rcases keyAction_ends_or_ignores keypad v rA rB with ⟨u, chain, ended⟩ | ignored
  · rw [ended]
    exact chain.trans (updates_resetProc rA rB u)
  · rw [ignored]

end Keypad

theorem updates_keyPoint (decodeKey : Burst → KeyValue) (rA rB : Bool) (s : State) :
    Updates s (keyPoint decodeKey rA rB s) := by
  cases due : keyDue s
  · rw [keyPoint_of_not_due decodeKey rA rB due]
  · obtain ⟨keypad, -⟩ := keyDue_iff.mp due
    have restarted : Updates s { s with keyBitCount := 0 } := .single (.cycle s s.frame s.bitCount 0 s.flags)
    rw [keyPoint_of_due decodeKey rA rB due]
    exact restarted.trans (updates_keyAction (s := { s with keyBitCount := 0 }) keypad _ rA rB)

theorem updates_framePoint (rA rB : Bool) (s : State) : Updates s (framePoint rA rB s) := by
  unfold framePoint
  split
  · exact updates_completeFrame rA rB s
  · exact .refl

/-- Steps 2 to 6 of BIT (R60), after the time stamp. -/
theorem updates_bitOperation (decodeKey : Burst → KeyValue) (a b : Bool) (now : Millis) (rA rB : Bool) (s : State) :
    Updates (timeStamp now s) (bitOperation decodeKey a b now rA rB s) :=
  calc Updates (timeStamp now s) (timeCheck rA rB (timeStamp now s)) := updates_timeCheck rA rB _
    Updates _ (count (sample a b (timeCheck rA rB (timeStamp now s)))) :=
      (updates_sample a b _).trans (updates_count _)
    Updates _ (bitOperation decodeKey a b now rA rB s) :=
      (updates_keyPoint decodeKey rA rB _).trans (updates_framePoint rA rB _)

theorem updates_receivedKey (v : KeyValue) (s : State) : Updates s (receivedKey v s) := by
  unfold receivedKey
  split
  · exact updates_keyAction ‹_› v s.inputs.rA s.inputs.rB
  · exact .refl

theorem updates_receivedFrame (p : Bool) (d : BitVec 24) (q : Bool) (s : State) :
    Updates s (receivedFrame p d q s) := by
  have placed : Updates s { s with frame := frameOf p d q, bitCount := 26 } :=
    .single (.cycle s (frameOf p d q) 26 s.keyBitCount s.flags)
  exact placed.trans (updates_completeFrame s.inputs.rA s.inputs.rB _)

/-! ### One inversion of `exec` -/

/-- The value whose action a KEY row runs (R45); no other row has one. -/
def keyValueOf : Instr → Option KeyValue
  | .key0 => some 0
  | .key1 => some 1
  | .key2 => some 2
  | .key3 => some 3
  | .key4 => some 4
  | .key5 => some 5
  | .key6 => some 6
  | .key7 => some 7
  | .key8 => some 8
  | .key9 => some 9
  | .keyIgnored10 => some 10
  | .keySubmit => some Config.submitValue
  | .keyIgnored12 => some 12
  | .keyIgnored13 => some 13
  | .keyIgnored14 => some 14
  | .keyIgnored15 => some 15
  | .keyMismatch _ _ => some Config.keyNone
  | _ => none

/-- `Does s i t`: the instruction `i` has a meaning, and its meaning takes `s` to `t`. -/
inductive Does (s : State) : Instr → State → Prop where
  | init : Does s .init (initOperation s.inputs.cfg s.inputs.rA s.inputs.rB s)
  | bit (a b : Bool) : Does s (bitRow a b) (bitEvent a b s)
  | tick : Does s .tick (tickOperation s.inputs.now s.inputs.rA s.inputs.rB s)
  | query : Does s .query (emit (.state s.flags) s)
  | reset : Does s .reset (resetProc s.inputs.rA s.inputs.rB s)
  | key {i : Instr} {v : KeyValue} (value : keyValueOf i = some v) : Does s i (receivedKey v s)
  | frame (p : Bool) (d : BitVec 24) (q : Bool) : Does s (.frame26 p d q) (receivedFrame p d q s)

/-- All that an instruction can do, one case per kind of row. -/
theorem does_of_exec {i : Instr} {s t : State} (run : exec i s = .next t) : Does s i t := by
  cases i with
  | init => cases run; exact .init
  | bit0 => obtain ⟨-, rfl⟩ := ready_eq_next.mp run; exact .bit true false
  | bit1 => obtain ⟨-, rfl⟩ := ready_eq_next.mp run; exact .bit false true
  | bitBoth => obtain ⟨-, rfl⟩ := ready_eq_next.mp run; exact .bit true true
  | bitNone => obtain ⟨-, rfl⟩ := ready_eq_next.mp run; exact .bit false false
  | tick => obtain ⟨-, rfl⟩ := ready_eq_next.mp run; exact .tick
  | query => obtain ⟨-, rfl⟩ := ready_eq_next.mp run; exact .query
  | reset => obtain ⟨-, rfl⟩ := ready_eq_next.mp run; exact .reset
  | reserved5 | reserved6 | reserved7 => cases run
  | frame26 p d q => obtain ⟨-, rfl⟩ := ready_eq_next.mp run; exact .frame p d q
  | _ => obtain ⟨-, rfl⟩ := ready_eq_next.mp run; exact .key rfl

/-- Once INIT has been performed, every instruction but the reserved selectors has a next state (R140). -/
theorem exec_total {i : Instr} {s : State} (ready : s.initialised = true)
    (named : i ≠ .reserved5 ∧ i ≠ .reserved6 ∧ i ≠ .reserved7) : ∃ t, exec i s = .next t := by
  obtain ⟨named5, named6, named7⟩ := named
  cases i with
  | init => exact ⟨_, rfl⟩
  | reserved5 => exact absurd rfl named5
  | reserved6 => exact absurd rfl named6
  | reserved7 => exact absurd rfl named7
  | _ => exact ⟨_, ready_of_initialised _ ready⟩

/-- `s` once `i` has written the clock's elements: BIT stamps the time (R70), TICK measures the silence (R75). -/
def clocked (i : Instr) (s : State) : State :=
  if isBit i then timeStamp s.inputs.now s else if i = .tick then measureSilence s.inputs.now s else s

/-- An instruction that is neither BIT nor TICK writes neither element of the clock (R18, R19). -/
theorem clocked_of_other {i : Instr} (s : State) (hbit : isBit i = false) (htick : i ≠ .tick) : clocked i s = s := by
  simp [clocked, hbit, htick]

theorem clocked_bitRow (a b : Bool) (s : State) : clocked (bitRow a b) s = timeStamp s.inputs.now s := by
  cases a <;> cases b <;> rfl

/-- The clock is all that `clocked` touches. -/
theorem clocked_eq (i : Instr) (s : State) :
    ∃ last silence, clocked i s = { s with lastTimestamp := last, elapsed := silence } := by
  unfold clocked
  split
  · exact ⟨_, _, rfl⟩
  · split <;> exact ⟨_, _, rfl⟩

/-- Only BIT writes LastTimestamp (R18). -/
theorem clocked_lastTimestamp {i : Instr} (s : State) (hbit : isBit i = false) :
    (clocked i s).lastTimestamp = s.lastTimestamp := by
  unfold clocked
  rw [hbit, if_neg Bool.false_ne_true]
  split <;> rfl

theorem isBit_of_keyValueOf {i : Instr} {v : KeyValue} (value : keyValueOf i = some v) : isBit i = false ∧ i ≠ .tick := by
  cases i with
  | bit0 | bit1 | bitBoth | bitNone | tick => cases value
  | _ => exact ⟨rfl, nofun⟩

/-- Every instruction but INIT writes the clock where it does, and then is a chain of updates. -/
theorem updates_of_exec {i : Instr} {s t : State} (hinit : i ≠ .init) (run : exec i s = .next t) :
    Updates (clocked i s) t := by
  cases does_of_exec run with
  | init => exact absurd rfl hinit
  | bit a b => rw [clocked_bitRow]; exact updates_bitOperation keyDecode a b s.inputs.now s.inputs.rA s.inputs.rB s
  | tick => exact updates_timeCheck s.inputs.rA s.inputs.rB (measureSilence s.inputs.now s)
  | query => exact .single (.query s)
  | reset => exact updates_resetProc s.inputs.rA s.inputs.rB s
  | key value =>
    obtain ⟨hbit, htick⟩ := isBit_of_keyValueOf value
    rw [clocked_of_other s hbit htick]
    exact updates_receivedKey _ s
  | frame p d q => exact updates_receivedFrame p d q s

/-! ### What a chain of updates keeps -/

theorem sameSetup_of_updates {s t : State} (h : Updates s t) : SameSetup s t := by
  induction h with
  | refl => exact ⟨rfl, rfl, rfl, rfl⟩
  | tail _ last ih => cases last <;> exact ih

theorem clock_of_updates {s t : State} (h : Updates s t) :
    t.lastTimestamp = s.lastTimestamp ∧ t.elapsed = s.elapsed := by
  induction h with
  | refl => exact ⟨rfl, rfl⟩
  | tail _ last ih => cases last <;> exact ih

/-- Every instruction but INIT keeps the setup (R20, R37). -/
theorem sameSetup_of_exec {i : Instr} {s t : State} (hinit : i ≠ .init) (run : exec i s = .next t) : SameSetup s t := by
  have kept := sameSetup_of_updates (updates_of_exec hinit run)
  obtain ⟨last, silence, heq⟩ := clocked_eq i s
  rw [heq] at kept
  exact kept

theorem outputs_emit {s u : State} {es : List Event} (e : Event) (h : u.outputs = s.outputs ++ es) :
    (emit e u).outputs = s.outputs ++ (es ++ [e]) := by
  rw [emit_outputs, h, List.append_assoc]

/-- The outputs only grow, and a new baseline is among what was added (R16, R123). -/
theorem snapshot_of_updates {s t : State} (h : Updates s t) :
    ∃ es, t.outputs = s.outputs ++ es ∧ (t.snapshot = s.snapshot ∨ .state t.snapshot ∈ es) := by
  induction h with
  | refl => exact ⟨[], by simp, .inl rfl⟩
  | tail _ last ih =>
    obtain ⟨es, houtputs, hsnapshot⟩ := ih
    cases last with
    | cycle | clearCode => exact ⟨es, houtputs, hsnapshot⟩
    | notify => exact ⟨_, outputs_emit _ houtputs, .inr (List.mem_append_right _ (List.mem_singleton_self _))⟩
    | data | digit | code | query => exact ⟨_, outputs_emit _ houtputs, hsnapshot.imp_right (List.mem_append_left _)⟩

/-- In the basic variant there is no code, and no `Digit` and no `Code` event is added (R111). -/
theorem basic_of_updates {s t : State} (h : Updates s t) (basic : s.config.keypadEnable = false)
    (nocode : s.accumulatedCode = 0) :
    t.accumulatedCode = 0 ∧ ∃ es, t.outputs = s.outputs ++ es ∧ ∀ e ∈ es, ∀ v w, e ≠ .digit v ∧ e ≠ .code w := by
  induction h with
  | refl => exact ⟨nocode, [], by simp, by simp⟩
  | @tail u _ chain last ih =>
    have still : u.config.keypadEnable = false := by rw [(sameSetup_of_updates chain).1, basic]
    obtain ⟨hcode, es, houtputs, hes⟩ := ih
    cases last with
    | cycle => exact ⟨hcode, es, houtputs, hes⟩
    | clearCode => exact ⟨rfl, es, houtputs, hes⟩
    | digit _ keypad | code _ keypad => exact absurd keypad (by simp [still])
    | data | notify | query =>
      refine ⟨hcode, _, outputs_emit _ houtputs, fun e he v w => ?_⟩
      rcases List.mem_append.mp he with he | he
      · exact hes e he v w
      · rw [List.mem_singleton.mp he]
        exact ⟨nofun, nofun⟩

/-! ### The statements about what no instruction does -/

/-- Settles O42: the setup is kept by every elementary update, and the clock is no part of it. -/
theorem onlyInitChangesConfiguration : Obligations.OnlyInitChangesConfiguration := by
  unfold Obligations.OnlyInitChangesConfiguration
  intro i s t hinit run
  exact sameSetup_of_exec hinit run

/-- Settles O43: no elementary update writes the clock, and what an instruction writes there before them is `clocked`. -/
theorem onlyBitEventsMoveLastTimestamp : Obligations.OnlyBitEventsMoveLastTimestamp := by
  unfold Obligations.OnlyBitEventsMoveLastTimestamp
  intro i s t hinit hbit run
  obtain ⟨hlast, helapsed⟩ := clock_of_updates (updates_of_exec hinit run)
  refine ⟨by rw [hlast, clocked_lastTimestamp s hbit], fun htick => ?_⟩
  rw [helapsed, clocked_of_other s hbit htick]

/-- Settles O44: of the elementary updates only the notify step writes the baseline, with the byte it emits. -/
theorem snapshotChangesOnlyWhenEmitted : Obligations.SnapshotChangesOnlyWhenEmitted := by
  unfold Obligations.SnapshotChangesOnlyWhenEmitted
  intro i s t hinit run changed
  obtain ⟨last, silence, heq⟩ := clocked_eq i s
  obtain ⟨es, houtputs, hsnapshot⟩ := snapshot_of_updates (updates_of_exec hinit run)
  rw [heq] at hsnapshot
  rw [houtputs]
  exact List.mem_append_right _ (hsnapshot.resolve_left changed)

/-- Settles O47: the updates that add a `Digit` or a `Code` event, or make a code, need the keypad. -/
theorem basicVariantHasNoKeyEvents : Obligations.BasicVariantHasNoKeyEvents := by
  unfold Obligations.BasicVariantHasNoKeyEvents
  intro i s t hinit basic nocode run
  have chain := updates_of_exec hinit run
  obtain ⟨last, silence, heq⟩ := clocked_eq i s
  rw [heq] at chain
  obtain ⟨hcode, es, houtputs, hes⟩ := basic_of_updates chain basic nocode
  exact ⟨hcode, es, houtputs, hes⟩

end Sys2Proof.Machine
end

section
/-!
# The invariants of R23

`Inv` is taken apart once, into what a reset step establishes and what it does not (`Standing`). A cycle's end then needs
`Standing` alone, and a BIT either ends the cycle or leaves one more bit counted.
-/
namespace Sys2Proof.Machine

open Sys2Proof.Claims

/-- The clauses of `Inv` that a reset step finds and does not make: INIT has been performed, and the basic variant holds no
code (R23 (vi)). -/
def Standing (s : State) : Prop :=
  s.initialised = true ∧ (s.config.keypadEnable = false → s.accumulatedCode = 0)

/-- The clauses of `Inv` about the flags byte (R23 (iv), (v), (vii)). -/
def Settled (b : FlagsByte) : Prop :=
  hasFlag .initialized b = true ∧ hasFlag .receiveTimeout b = false ∧ hasFlag .bitsFault b = false ∧
    hasFlag .parityFirstFault b = false ∧ hasFlag .paritySecondFault b = false ∧ hasFlag .dataSent b = false

/-- The positions of the buffer from `n` on are 0 (R23 (ii)). -/
def BlankFrom (n : Nat) (f : FrameBits) : Prop :=
  ∀ i : Fin 26, n ≤ i.val → frameBit f i.val = false

/-- KeyBitCount after `n` bits of a frame (R23 (iii)). -/
def keyCountOf (keypad : Bool) (n : BitVec 5) : BitVec 4 :=
  if keypad then BitVec.ofNat 4 (n.toNat % 8) else 0

theorem inv_iff (s : State) :
    Inv s ↔ Standing s ∧ s.bitCount ≤ 25 ∧ BlankFrom s.bitCount.toNat s.frame ∧
      s.keyBitCount = keyCountOf s.config.keypadEnable s.bitCount ∧ Settled s.flags := by
  unfold Inv Standing Settled BlankFrom keyCountOf
  constructor
  · rintro ⟨hready, hcount, hblank, hkey, h1, h2, h3, h4, h5, hcode, h6⟩
    exact ⟨⟨hready, hcode⟩, hcount, hblank, hkey, h1, h2, h3, h4, h5, h6⟩
  · rintro ⟨⟨hready, hcode⟩, hcount, hblank, hkey, h1, h2, h3, h4, h5, h6⟩
    exact ⟨hready, hcount, hblank, hkey, h1, h2, h3, h4, h5, hcode, h6⟩

theorem standing_of_inv {s : State} (h : Inv s) : Standing s := ((inv_iff s).mp h).1

/-! ### The end of a cycle -/

theorem settled_freshFlags (rA rB : Bool) : Settled (freshFlags rA rB) :=
  ⟨hasFlag_initialized_freshFlags rA rB, hasFlag_freshFlags_of_cyclic rA rB nofun nofun,
    hasFlag_freshFlags_of_cyclic rA rB nofun nofun, hasFlag_freshFlags_of_cyclic rA rB nofun nofun,
    hasFlag_freshFlags_of_cyclic rA rB nofun nofun, hasFlag_freshFlags_of_cyclic rA rB nofun nofun⟩

/-- LogicFault says that an ambiguous bit was sampled; no other clause speaks of it (R63). -/
theorem settled_setFlagBit_logicFault {b : FlagsByte} (h : Settled b) : Settled (setFlagBit .logicFault b) := by
  simpa [Settled] using h

/-- A reset step establishes whatever `Standing` does not say (R124). -/
theorem inv_resetStep {s : State} (rA rB : Bool) (h : Standing s) : Inv (resetStep rA rB s) :=
  (inv_iff _).mpr ⟨h, by simp, fun i _ => frameBit_zero i, by simp [keyCountOf], settled_freshFlags rA rB⟩

theorem standing_of_updates {s t : State} (h : Updates s t) (hs : Standing s) : Standing t := by
  obtain ⟨hready, hcode⟩ := hs
  obtain ⟨hconfig, hkept, -, -⟩ := sameSetup_of_updates h
  refine ⟨by rw [hkept, hready], fun basic => ?_⟩
  rw [hconfig] at basic
  exact (basic_of_updates h basic (hcode basic)).1

/-- The end of a cycle establishes the invariants (R122). -/
theorem inv_resetProc {s : State} (rA rB : Bool) (h : Standing s) : Inv (resetProc rA rB s) :=
  inv_resetStep rA rB (standing_of_updates (updates_notifyStep s) h)

theorem logicFault_resetProc (rA rB : Bool) (s : State) : hasFlag .logicFault (resetProc rA rB s).flags = false :=
  hasFlag_freshFlags_of_cyclic rA rB nofun nofun

theorem inv_initOperation (cfg : BitVec 3) (rA rB : Bool) (s : State) : Inv (initOperation cfg rA rB s) :=
  inv_resetStep rA rB ⟨rfl, fun _ => rfl⟩

/-! ### The time check -/

theorem inv_keyIdle {s : State} (h : Inv s) : Inv (keyIdle s) := by
  obtain ⟨hstanding, hcount, hblank, hkey, hflags⟩ := (inv_iff s).mp h
  have standing := standing_of_updates (updates_keyIdle s) hstanding
  rw [keyIdle_eq] at standing ⊢
  exact (inv_iff _).mpr ⟨standing, hcount, hblank, hkey, hflags⟩

/-- A time check ends the frame in progress, or it writes nothing but AccumulatedCode (R71, R72, R73). -/
theorem timeCheck_cases (rA rB : Bool) (s : State) :
    (s.bitCount ≠ 0 ∧ ∃ u, Updates s u ∧ timeCheck rA rB s = resetProc rA rB u) ∨ timeCheck rA rB s = keyIdle s := by
  have quiet : (keyIdle s).bitCount = s.bitCount := by rw [keyIdle_eq]
  unfold timeCheck
  cases expired : gapExpired (keyIdle s)
  · exact .inr (frameGap_of_quiet rA rB expired)
  · obtain ⟨-, inProgress⟩ := gapExpired_iff.mp expired
    refine .inl ⟨quiet ▸ inProgress, _, ?_, frameGap_of_expired rA rB expired⟩
    exact ((updates_keyIdle s).trans (updates_setFlag .receiveTimeout _)).trans (updates_emissionPass _)

theorem inv_timeCheck {s : State} (rA rB : Bool) (h : Inv s) : Inv (timeCheck rA rB s) := by
  rcases timeCheck_cases rA rB s with ⟨-, u, chain, ended⟩ | quiet
  · rw [ended]
    exact inv_resetProc rA rB (standing_of_updates chain (standing_of_inv h))
  · rw [quiet]
    exact inv_keyIdle h

/-! ### One bit more -/

/-- The state between steps 4 and 5 of BIT (R60): the pair sampled and counted. -/
def counted (a b : Bool) (s : State) : State :=
  count (sample a b s)

/-- KeyBitCount after a bit more (R64). -/
def keyAdvanced (keypad : Bool) (k : BitVec 4) : BitVec 4 :=
  if keypad then k + 1 else k

theorem counted_bitCount (a b : Bool) (s : State) : (counted a b s).bitCount = s.bitCount + 1 := by
  unfold counted sample
  split <;> rfl

theorem counted_config (a b : Bool) (s : State) : (counted a b s).config = s.config := by
  unfold counted sample
  split <;> rfl

theorem counted_keyBitCount (a b : Bool) (s : State) :
    (counted a b s).keyBitCount = keyAdvanced s.config.keypadEnable s.keyBitCount := by
  unfold counted sample
  split <;> rfl

/-- An ambiguous pair sets LogicFault, and nothing else writes the flags (R62, R63). -/
theorem counted_flags (a b : Bool) (s : State) :
    (counted a b s).flags = if a = b then setFlagBit .logicFault s.flags else s.flags := by
  unfold counted
  split
  · rw [sample_of_eq ‹_›]; rfl
  · rw [sample_of_ne ‹_›]; rfl

theorem updates_counted (a b : Bool) (s : State) : Updates s (counted a b s) :=
  (updates_sample a b s).trans (updates_count _)

/-- Sampling writes no position but `BitCount` (R62, R63). -/
theorem frameBit_counted {a b : Bool} {s : State} {j : Nat} (h : j ≠ s.bitCount.toNat) :
    frameBit (counted a b s).frame j = frameBit s.frame j := by
  unfold counted sample
  split
  · simp [frameBit_setFrameBit, h]
  · rfl

/-- No count of a frame wraps (R12). -/
theorem toNat_add_one {n : BitVec 5} (h : n ≤ 25) : (n + 1).toNat = n.toNat + 1 := by
  bv_omega

theorem blankFrom_counted (a b : Bool) {s : State} (hcount : s.bitCount ≤ 25)
    (hblank : BlankFrom s.bitCount.toNat s.frame) : BlankFrom (s.bitCount + 1).toNat (counted a b s).frame := by
  intro i hi
  rw [toNat_add_one hcount] at hi
  rw [frameBit_counted (by omega)]
  exact hblank i (by omega)

theorem settled_counted (a b : Bool) {s : State} (h : Settled s.flags) : Settled (counted a b s).flags := by
  rw [counted_flags]
  split
  · exact settled_setFlagBit_logicFault h
  · exact h

/-- `KeyBitCount` reaches 8 and returns to 0 with the 8th, the 16th and the 24th bit (R13, R64). -/
theorem keyCountOf_add_one : ∀ (keypad : Bool) (n : BitVec 5), n ≤ 25 →
    (if keypad && keyAdvanced keypad (keyCountOf keypad n) == 8 then 0 else keyAdvanced keypad (keyCountOf keypad n)) =
      keyCountOf keypad (n + 1) := by
  decide

/-- It does not reach 8 with the 26th bit (R23 (iii)). -/
theorem keyAdvanced_ne_of_last : ∀ (keypad : Bool) (n : BitVec 5), n ≤ 25 →
    (keypad && keyAdvanced keypad (keyCountOf keypad n) == 8) = true → n + 1 ≤ 25 := by
  decide

/-- The state that steps 5 and 6 of BIT leave where they end no cycle: `KeyBitCount` is back at 0 on reaching 8 (R60). -/
def carriedOn (u : State) : State :=
  { u with keyBitCount := if keyDue u then 0 else u.keyBitCount }

theorem updates_carriedOn (u : State) : Updates u (carriedOn u) :=
  .single (.cycle u u.frame u.bitCount _ u.flags)

theorem carriedOn_of_due {u : State} (due : keyDue u = true) : carriedOn u = { u with keyBitCount := 0 } := by
  simp [carriedOn, due]

theorem carriedOn_of_not_due {u : State} (due : keyDue u = false) : carriedOn u = u := by
  simp [carriedOn, due]

theorem carriedOn_counted_keyBitCount (a b : Bool) {s : State} (h : Inv s) :
    (carriedOn (counted a b s)).keyBitCount = keyCountOf s.config.keypadEnable (s.bitCount + 1) := by
  obtain ⟨-, hcount, -, hkey, -⟩ := (inv_iff s).mp h
  rw [← keyCountOf_add_one s.config.keypadEnable s.bitCount hcount, ← hkey]
  unfold carriedOn keyDue
  rw [counted_config, counted_keyBitCount]

/-- Where the key step is due the frame is not complete (R23 (iii)). -/
theorem below_of_keyDue_counted {a b : Bool} {s : State} (h : Inv s) (due : keyDue (counted a b s) = true) :
    s.bitCount + 1 ≤ 25 := by
  obtain ⟨-, hcount, -, hkey, -⟩ := (inv_iff s).mp h
  unfold keyDue at due
  rw [counted_config, counted_keyBitCount, hkey] at due
  exact keyAdvanced_ne_of_last s.config.keypadEnable s.bitCount hcount due

/-- A bit counted below 26 keeps the invariants. -/
theorem inv_carriedOn (a b : Bool) {s : State} (h : Inv s) (below : s.bitCount + 1 ≤ 25) :
    Inv (carriedOn (counted a b s)) := by
  obtain ⟨hstanding, hcount, hblank, -, hflags⟩ := (inv_iff s).mp h
  have hn : (carriedOn (counted a b s)).bitCount = s.bitCount + 1 := counted_bitCount a b s
  have hc : (carriedOn (counted a b s)).config = s.config := counted_config a b s
  have standing := standing_of_updates ((updates_counted a b s).trans (updates_carriedOn _)) hstanding
  rw [inv_iff, hn, hc]
  exact ⟨standing, below, blankFrom_counted a b hcount hblank, carriedOn_counted_keyBitCount a b h,
    settled_counted a b hflags⟩

/-! ### The BIT operation -/

theorem framePoint_resetProc (rA rB : Bool) (s : State) : framePoint rA rB (resetProc rA rB s) = resetProc rA rB s :=
  framePoint_of_not_due rA rB rfl

/-- Steps 5 and 6 of BIT (R60) end the cycle, or they carry on with the bit counted, which is then not the 26th. -/
theorem points_cases (decodeKey : Burst → KeyValue) (a b rA rB : Bool) {s : State} (h : Inv s) :
    (∃ u, Updates s u ∧ framePoint rA rB (keyPoint decodeKey rA rB (counted a b s)) = resetProc rA rB u) ∨
    (s.bitCount + 1 ≤ 25 ∧
      framePoint rA rB (keyPoint decodeKey rA rB (counted a b s)) = carriedOn (counted a b s)) := by
  have hn : (carriedOn (counted a b s)).bitCount = s.bitCount + 1 := counted_bitCount a b s
  cases due : keyDue (counted a b s)
  · rw [keyPoint_of_not_due decodeKey rA rB due, carriedOn_of_not_due due]
    cases full : frameDue (counted a b s)
    · have below : s.bitCount + 1 ≤ 25 := by
        obtain ⟨-, hcount, -⟩ := (inv_iff s).mp h
        have notFull : s.bitCount + 1 ≠ 26 := by simpa [frameDue, counted_bitCount] using full
        bv_omega
      exact .inr ⟨below, framePoint_of_not_due rA rB full⟩
    · exact .inl ⟨_, (updates_counted a b s).trans (updates_emissionPass _), framePoint_of_due rA rB full⟩
  · have below := below_of_keyDue_counted h due
    obtain ⟨keypad, -⟩ := keyDue_iff.mp due
    rw [keyPoint_of_due decodeKey rA rB due, ← carriedOn_of_due due]
    rcases keyAction_ends_or_ignores (s := carriedOn (counted a b s)) keypad
      (decodeKey (burstBits (counted a b s).frame)) rA rB with ⟨u, chain, ended⟩ | ignored
    · rw [ended, framePoint_resetProc]
      exact .inl ⟨u, ((updates_counted a b s).trans (updates_carriedOn _)).trans chain, rfl⟩
    · rw [ignored]
      have notFull : s.bitCount + 1 ≠ 26 := by bv_omega
      exact .inr ⟨below, framePoint_of_not_due rA rB (by simpa [frameDue, hn] using notFull)⟩

theorem inv_points (decodeKey : Burst → KeyValue) (a b rA rB : Bool) {s : State} (h : Inv s) :
    Inv (framePoint rA rB (keyPoint decodeKey rA rB (counted a b s))) := by
  rcases points_cases decodeKey a b rA rB h with ⟨u, chain, ended⟩ | ⟨below, carried⟩
  · rw [ended]
    exact inv_resetProc rA rB (standing_of_updates chain (standing_of_inv h))
  · rw [carried]
    exact inv_carriedOn a b h below

/-- The BIT operation keeps the invariants (R23, R60). -/
theorem inv_bitOperation (decodeKey : Burst → KeyValue) (a b : Bool) (now : Millis) (rA rB : Bool) {s : State}
    (h : Inv s) : Inv (bitOperation decodeKey a b now rA rB s) :=
  inv_points decodeKey a b rA rB (inv_timeCheck (s := timeStamp now s) rA rB h)

/-! ### Every instruction, every step, every run -/

theorem inv_receivedKey (v : KeyValue) {s : State} (h : Inv s) : Inv (receivedKey v s) := by
  unfold receivedKey
  split
  · rcases keyAction_ends_or_ignores ‹_› v s.inputs.rA s.inputs.rB with ⟨u, chain, ended⟩ | ignored
    · rw [ended]
      exact inv_resetProc _ _ (standing_of_updates chain (standing_of_inv h))
    · rw [ignored]
      exact h
  · exact h

theorem inv_receivedFrame (p : Bool) (d : BitVec 24) (q : Bool) {s : State} (h : Inv s) :
    Inv (receivedFrame p d q s) := by
  have standing : Standing s := standing_of_inv h
  have placed : Standing { s with frame := frameOf p d q, bitCount := 26 } := standing
  exact inv_resetProc s.inputs.rA s.inputs.rB (standing_of_updates (updates_emissionPass _) placed)

/-- Every instruction keeps the invariants, the rows that no environment can issue included. -/
theorem inv_of_exec {i : Instr} {s t : State} (h : Inv s) (run : exec i s = .next t) : Inv t := by
  cases does_of_exec run with
  | init => exact inv_initOperation s.inputs.cfg s.inputs.rA s.inputs.rB s
  | bit a b => exact inv_bitOperation keyDecode a b s.inputs.now s.inputs.rA s.inputs.rB h
  | tick => exact inv_timeCheck (s := measureSilence s.inputs.now s) s.inputs.rA s.inputs.rB h
  | query => exact h
  | reset => exact inv_resetProc s.inputs.rA s.inputs.rB (standing_of_inv h)
  | key => exact inv_receivedKey _ h
  | frame p d q => exact inv_receivedFrame p d q h

/-- Between operations no key burst and no frame is due (R23 (i), (iii)). -/
theorem nothing_due_of_inv {s : State} (h : Inv s) : keyDue s = false ∧ frameDue s = false := by
  obtain ⟨-, hcount, -, hkey, -⟩ := (inv_iff s).mp h
  have small : ∀ (keypad : Bool) (n : BitVec 5), keyCountOf keypad n ≠ 8 := by decide
  constructor
  · exact Bool.eq_false_iff.mpr fun due => small _ _ (hkey.symm.trans (keyDue_iff.mp due).2)
  · have notFull : s.bitCount ≠ 26 := by bv_omega
    exact Bool.eq_false_iff.mpr fun due => notFull (frameDue_iff.mp due)

theorem step_of_no_request {s : State} (h : Inv s) (htrace : s.trace = []) : step s = .next s := by
  rw [step, fetch_of_no_request (.inr (nothing_due_of_inv h)) htrace]

/-- A step from a state that satisfies the invariants runs the next operation of the trace (R35). -/
theorem step_of_request {s : State} (h : Inv s) {r : Request} {rest : List Request} (htrace : s.trace = r :: rest) :
    step s = exec (decode (.cmd r.cmd)) { s with trace := rest, inputs := r.inputs, outputs := [] } := by
  rw [step, fetch_of_request (.inr (nothing_due_of_inv h)) htrace]

theorem inv_of_step {s t : State} (h : Inv s) (run : step s = .next t) : Inv t := by
  cases htrace : s.trace with
  | nil =>
    rw [step_of_no_request h htrace] at run
    cases run
    exact h
  | cons r rest =>
    rw [step_of_request h htrace] at run
    exact inv_of_exec (s := { s with trace := rest, inputs := r.inputs, outputs := [] }) h run

/-- No instruction writes the trace (R35). -/
theorem trace_of_exec {i : Instr} {s t : State} (run : exec i s = .next t) : t.trace = s.trace := by
  by_cases hinit : i = .init
  · subst hinit
    cases run
    rfl
  · obtain ⟨-, -, -, htrace⟩ := sameSetup_of_exec hinit run
    exact htrace

/-- A legal request names an operation (R52). -/
theorem decodeCmd_of_legal_selector : ∀ w : CmdWord, selectorOf w ≤ 4 →
    decodeCmd w ≠ .reserved5 ∧ decodeCmd w ≠ .reserved6 ∧ decodeCmd w ≠ .reserved7 := by
  decide

/-- A step of a legal trace has a next state and takes one request, if there is one (R35, R140). -/
theorem step_total {s : State} (h : Inv s) (legal : ∀ r ∈ s.trace, Legal r) :
    ∃ t, step s = .next t ∧ t.trace = s.trace.drop 1 := by
  cases htrace : s.trace with
  | nil => exact ⟨s, step_of_no_request h htrace, htrace⟩
  | cons r rest =>
    obtain ⟨ready, -⟩ := standing_of_inv h
    have named := decodeCmd_of_legal_selector r.cmd (legal r (by simp [htrace]))
    obtain ⟨t, run⟩ := exec_total (s := { s with trace := rest, inputs := r.inputs, outputs := [] }) ready named
    exact ⟨t, by rw [step_of_request h htrace]; exact run, trace_of_exec run⟩

/-- Any number of steps of a legal trace (R35, R140). -/
theorem run_total (k : Nat) {s : State} (h : Inv s) (legal : ∀ r ∈ s.trace, Legal r) :
    ∃ t, Host.Core.run Sys2Proof.core k s = .next t ∧ Inv t ∧ t.trace = s.trace.drop k := by
  induction k generalizing s with
  | zero => exact ⟨s, rfl, h, rfl⟩
  | succ k ih =>
    obtain ⟨u, first, htaken⟩ := step_total h legal
    have stillLegal : ∀ r ∈ u.trace, Legal r := fun r hr => legal r (List.mem_of_mem_drop (htaken ▸ hr))
    obtain ⟨t, later, hinv, hrest⟩ := ih (inv_of_step h first) stillLegal
    exact ⟨t, by rw [run_succ_of_next k first, later], hinv, by rw [hrest, htaken, List.drop_drop, Nat.add_comm]⟩

/-! ### LogicFault and the ambiguous bits -/

/-- The history of R23 (viii) over a BIT, for every line pair. -/
theorem ambiguousAfter_bitRow (a b g : Bool) (s t : State) :
    ambiguousAfter (bitRow a b) g s t =
      if a = b then decide (t.bitCount ≠ 0) else if t.bitCount = s.bitCount + 1 then g else false := by
  cases a <;> cases b <;> simp [bitRow, ambiguousAfter]

/-- The time check clears LogicFault with the frame in progress, or leaves both (R73, R124). -/
theorem logicFault_timeCheck (rA rB : Bool) (s : State) :
    (s.bitCount ≠ 0 ∧ (timeCheck rA rB s).bitCount = 0 ∧ hasFlag .logicFault (timeCheck rA rB s).flags = false) ∨
    ((timeCheck rA rB s).bitCount = s.bitCount ∧ (timeCheck rA rB s).flags = s.flags) := by
  rcases timeCheck_cases rA rB s with ⟨inProgress, u, -, ended⟩ | quiet
  · rw [ended]
    exact .inl ⟨inProgress, rfl, logicFault_resetProc rA rB u⟩
  · rw [quiet, keyIdle_eq]
    exact .inr ⟨rfl, rfl⟩

theorem logicFault_counted (a b : Bool) (s : State) :
    hasFlag .logicFault (counted a b s).flags = (decide (a = b) || hasFlag .logicFault s.flags) := by
  rw [counted_flags]
  split <;> simp [*]

theorem logicFault_tickOperation (now : Millis) (rA rB : Bool) (s : State) :
    hasFlag .logicFault (tickOperation now rA rB s).flags =
      ambiguousAfter .tick (hasFlag .logicFault s.flags) s (tickOperation now rA rB s) := by
  have history (t : State) : ambiguousAfter .tick (hasFlag .logicFault s.flags) s t =
      if s.bitCount ≠ 0 ∧ t.bitCount = 0 then false else hasFlag .logicFault s.flags := rfl
  rw [history]
  unfold tickOperation
  rcases logicFault_timeCheck rA rB (measureSilence now s) with ⟨inProgress, hcount, hfault⟩ | ⟨hcount, hflags⟩
  · rw [hfault, if_pos ⟨inProgress, hcount⟩]
  · have notEnded : ¬ (s.bitCount ≠ 0 ∧ (timeCheck rA rB (measureSilence now s)).bitCount = 0) :=
      fun ⟨inProgress, ended⟩ => inProgress (hcount.symm.trans ended)
    rw [if_neg notEnded, hflags, measureSilence_flags]

/-- Steps 3 to 6 of BIT clear LogicFault with the cycle, or count the bit and add an ambiguous one to the record (R63). -/
theorem logicFault_points (decodeKey : Burst → KeyValue) (a b rA rB : Bool) {s t : State} (h : Inv s)
    (ht : framePoint rA rB (keyPoint decodeKey rA rB (counted a b s)) = t) :
    (t.bitCount = 0 ∧ hasFlag .logicFault t.flags = false) ∨
    (s.bitCount + 1 ≤ 25 ∧ t.bitCount = s.bitCount + 1 ∧
      hasFlag .logicFault t.flags = (decide (a = b) || hasFlag .logicFault s.flags)) := by
  subst ht
  rcases points_cases decodeKey a b rA rB h with ⟨u, -, ended⟩ | ⟨below, carried⟩
  · rw [ended]
    exact .inl ⟨rfl, logicFault_resetProc rA rB u⟩
  · rw [carried]
    exact .inr ⟨below, counted_bitCount a b s, logicFault_counted a b s⟩

theorem logicFault_bitOperation (decodeKey : Burst → KeyValue) (a b : Bool) (now : Millis) (rA rB : Bool) {s t : State}
    (h : Inv s) (ht : bitOperation decodeKey a b now rA rB s = t) :
    hasFlag .logicFault t.flags = ambiguousAfter (bitRow a b) (hasFlag .logicFault s.flags) s t := by
  obtain ⟨-, hs, -⟩ := (inv_iff s).mp h
  have checked : Inv (timeCheck rA rB (timeStamp now s)) := inv_timeCheck (s := timeStamp now s) rA rB h
  rw [ambiguousAfter_bitRow]
  rcases logicFault_points decodeKey a b rA rB checked ht with ⟨hcount, hfault⟩ | ⟨below, hcount, hfault⟩
  · have notNext : (0 : BitVec 5) ≠ s.bitCount + 1 := by bv_omega
    rw [hcount, hfault, if_neg notNext]
    simp
  · rw [hcount, hfault]
    by_cases pair : a = b
    · have counting : (timeCheck rA rB (timeStamp now s)).bitCount + 1 ≠ 0 := by
        obtain ⟨-, hm, -⟩ := (inv_iff _).mp checked
        bv_omega
      rw [if_pos pair, decide_eq_true pair, Bool.true_or, decide_eq_true counting]
    · rw [if_neg pair, decide_eq_false pair, Bool.false_or]
      rcases logicFault_timeCheck rA rB (timeStamp now s) with ⟨inProgress, restarted, cleared⟩ | ⟨going, hflags⟩
      · have restart : (timeCheck rA rB (timeStamp now s)).bitCount + 1 ≠ s.bitCount + 1 := by
          rw [timeStamp_bitCount] at inProgress
          bv_omega
        rw [cleared, if_neg restart]
      · rw [hflags, going, timeStamp_bitCount, if_pos rfl, timeStamp_flags]

/-! ### The statements about the invariants -/

/-- Settles O35: INIT with `cfg` 000 and both lines high leaves the reset state as it is (R25, R161). -/
theorem resetStateSatisfiesInvariants : Obligations.ResetStateSatisfiesInvariants := by
  unfold Obligations.ResetStateSatisfiesInvariants
  have isInit : initOperation 0 true true State.reset = State.reset := rfl
  exact isInit ▸ inv_initOperation 0 true true State.reset

/-- Settles O36: INIT ends in a reset step, which needs only that INIT dropped the code. -/
theorem initEstablishesInvariants : Obligations.InitEstablishesInvariants := by
  unfold Obligations.InitEstablishesInvariants
  intro s t run
  cases run
  exact inv_initOperation s.inputs.cfg s.inputs.rA s.inputs.rB s

/-- Settles O37: a step runs one instruction of the trace, and every instruction keeps the invariants. -/
theorem everyStepKeepsInvariants : Obligations.EveryStepKeepsInvariants := by
  unfold Obligations.EveryStepKeepsInvariants
  intro s t h run
  exact inv_of_step h run

/-- Settles O38: the bit ends the cycle, whatever the burst decodes to, or is counted below 26. -/
theorem bitKeepsInvariantsForEveryKeyDecode : Obligations.BitKeepsInvariantsForEveryKeyDecode := by
  unfold Obligations.BitKeepsInvariantsForEveryKeyDecode
  intro decodeKey a b now rA rB s h
  exact inv_bitOperation decodeKey a b now rA rB h

/-- Settles O39, by induction on the number of steps: each has a next state, which satisfies the invariants. -/
theorem serializedTraceNeverStops : Obligations.SerializedTraceNeverStops := by
  unfold Obligations.SerializedTraceNeverStops
  intro k s h legal
  exact run_total k h legal

/-- Settles O41: a reset step clears the flag with the counts, and an ambiguous pair alone sets it. -/
theorem logicFaultRecordsAmbiguousBits : Obligations.LogicFaultRecordsAmbiguousBits := by
  unfold Obligations.LogicFaultRecordsAmbiguousBits
  rintro i g s t h operation rfl run
  cases does_of_exec run with
  | init => exact hasFlag_freshFlags_of_cyclic s.inputs.rA s.inputs.rB nofun nofun
  | bit a b => exact logicFault_bitOperation keyDecode a b s.inputs.now s.inputs.rA s.inputs.rB h rfl
  | tick => exact logicFault_tickOperation s.inputs.now s.inputs.rA s.inputs.rB s
  | query => rfl
  | reset => exact logicFault_resetProc s.inputs.rA s.inputs.rB s
  | key value =>
    obtain ⟨notBit, -⟩ := isBit_of_keyValueOf value
    rcases operation with hbit | rfl | rfl | rfl | rfl
    · exact absurd (notBit.symm.trans hbit) Bool.false_ne_true
    all_goals cases value
  | frame p d q => simp [isBit] at operation

end Sys2Proof.Machine
end

section
/-!
# What one operation emits

A cycle's end appends at most one notification to what stands before it, so an operation that ends one cycle, after one
payload event at most, has an output list of R38's shapes. What remains is that a BIT never ends two cycles: after a frame-gap
timeout neither its step 5 nor its step 6 is due, and the two are never due together.
-/
namespace Sys2Proof.Machine

open Sys2Proof.Claims

/-- What can stand before the notification of a cycle's end (R38): nothing, or one payload event. -/
def payloadShape : List Event → Bool
  | [] => true
  | [e] => isPayload e
  | _ => false

/-- A notify step completes the output list of its operation (R38, R123). -/
theorem outputShape_append_notification {es : List Event} (h : payloadShape es = true) (s : State) :
    outputShape (es ++ notification s) = true := by
  unfold notification
  match es, h with
  | [], _ => split <;> rfl
  | [e], h =>
    split
    · exact h
    · rfl

theorem outputShape_resetProc (rA rB : Bool) {s : State} (h : payloadShape s.outputs = true) :
    outputShape (resetProc rA rB s).outputs = true := by
  rw [resetProc_eq]
  exact outputShape_append_notification h s

/-! ### What comes before the end of a cycle -/

section Unsent

variable {s : State} (unsent : s.outputs = [])
include unsent

theorem payloadShape_emissionPass : payloadShape (emissionPass s).outputs = true := by
  rw [emissionPass_eq]
  dsimp only
  rw [unsent, List.nil_append, passData]
  split <;> rfl

theorem payloadShape_enterDigit (v : BitVec 4) : payloadShape (enterDigit v s).outputs = true := by
  rw [enterDigit_outputs, unsent]
  rfl

theorem payloadShape_submitCode : payloadShape (submitCode s).outputs = true := by
  rw [submitCode_eq]
  dsimp only
  rw [unsent, List.nil_append, submitEvents]
  split <;> rfl

/-! ### The actions that can end a cycle -/

theorem outputShape_of_unsent : outputShape s.outputs = true := by
  rw [unsent]
  rfl

theorem outputShape_completeFrame (rA rB : Bool) : outputShape (completeFrame rA rB s).outputs = true :=
  outputShape_resetProc rA rB (payloadShape_emissionPass unsent)

theorem outputShape_framePoint (rA rB : Bool) : outputShape (framePoint rA rB s).outputs = true := by
  unfold framePoint
  split
  · exact outputShape_completeFrame unsent rA rB
  · exact outputShape_of_unsent unsent

theorem outputShape_keyAction (v : KeyValue) (rA rB : Bool) : outputShape (keyAction v rA rB s).outputs = true := by
  rcases keyAction_cases v rA rB s with ⟨-, digit⟩ | ⟨-, submit⟩ | ⟨-, -, ignored⟩
  · rw [digit]
    exact outputShape_resetProc rA rB (payloadShape_enterDigit unsent _)
  · rw [submit]
    exact outputShape_resetProc rA rB (payloadShape_submitCode unsent)
  · rw [ignored]
    exact outputShape_of_unsent unsent

theorem outputShape_receivedKey (v : KeyValue) : outputShape (receivedKey v s).outputs = true := by
  unfold receivedKey
  split
  · exact outputShape_keyAction unsent v s.inputs.rA s.inputs.rB
  · exact outputShape_of_unsent unsent

theorem keyIdle_unsent : (keyIdle s).outputs = [] := by
  rw [keyIdle_eq]
  exact unsent

theorem outputShape_timeCheck (rA rB : Bool) : outputShape (timeCheck rA rB s).outputs = true := by
  have idled := keyIdle_unsent unsent
  unfold timeCheck
  cases expired : gapExpired (keyIdle s)
  · rw [frameGap_of_quiet rA rB expired]
    exact outputShape_of_unsent idled
  · rw [frameGap_of_expired rA rB expired]
    exact outputShape_completeFrame (s := setFlag .receiveTimeout (keyIdle s)) idled rA rB

end Unsent

/-! ### A BIT ends at most one cycle -/

theorem counted_outputs (a b : Bool) (s : State) : (counted a b s).outputs = s.outputs := by
  unfold counted sample
  split <;> rfl

/-- The bit that follows a cycle's end is the first of its frame: steps 5 and 6 are not due (R60). -/
theorem points_counted_resetProc (decodeKey : Burst → KeyValue) (a b rA rB : Bool) (s : State) :
    framePoint rA rB (keyPoint decodeKey rA rB (counted a b (resetProc rA rB s))) = counted a b (resetProc rA rB s) := by
  have first : ∀ keypad : Bool, keyAdvanced keypad 0 ≠ 8 := by decide
  have noBurst : keyDue (counted a b (resetProc rA rB s)) = false :=
    Bool.eq_false_iff.mpr fun due => first _ ((counted_keyBitCount a b _).symm.trans (keyDue_iff.mp due).2)
  have noFrame : frameDue (counted a b (resetProc rA rB s)) = false := by
    rw [frameDue, counted_bitCount]
    rfl
  rw [keyPoint_of_not_due decodeKey rA rB noBurst, framePoint_of_not_due rA rB noFrame]

/-- No key action completes a frame: it leaves BitCount, or clears it (R106, R108). -/
theorem frameDue_keyAction (v : KeyValue) (rA rB : Bool) {s : State} (notFull : s.bitCount ≠ 26) :
    frameDue (keyAction v rA rB s) = false := by
  rcases keyAction_cases v rA rB s with ⟨-, digit⟩ | ⟨-, submit⟩ | ⟨-, -, ignored⟩
  · rw [digit]; rfl
  · rw [submit]; rfl
  · rw [ignored]
    exact Bool.eq_false_iff.mpr fun full => notFull (frameDue_iff.mp full)

/-- Of steps 5 and 6 of BIT (R60) at most one acts. -/
theorem outputShape_points (decodeKey : Burst → KeyValue) (a b rA rB : Bool) {s : State} (h : Inv s)
    (unsent : s.outputs = []) :
    outputShape (framePoint rA rB (keyPoint decodeKey rA rB (counted a b s))).outputs = true := by
  have sampled : (counted a b s).outputs = [] := (counted_outputs a b s).trans unsent
  cases due : keyDue (counted a b s)
  · rw [keyPoint_of_not_due decodeKey rA rB due]
    exact outputShape_framePoint sampled rA rB
  · have below := below_of_keyDue_counted h due
    have hn : (carriedOn (counted a b s)).bitCount = s.bitCount + 1 := counted_bitCount a b s
    have notFull : (carriedOn (counted a b s)).bitCount ≠ 26 := by bv_omega
    rw [keyPoint_of_due decodeKey rA rB due, ← carriedOn_of_due due,
      framePoint_of_not_due rA rB (frameDue_keyAction _ rA rB notFull)]
    exact outputShape_keyAction (s := carriedOn (counted a b s)) sampled _ rA rB

/-- BIT as its time check, its sampling and counting, and its steps 5 and 6 (R60). -/
theorem bitOperation_eq (decodeKey : Burst → KeyValue) (a b : Bool) (now : Millis) (rA rB : Bool) (s : State) :
    bitOperation decodeKey a b now rA rB s =
      framePoint rA rB (keyPoint decodeKey rA rB (counted a b (timeCheck rA rB (timeStamp now s)))) := rfl

/-- After the time stamp, a BIT ends the frame that the silence before it cut off, or one of steps 5 and 6 acts (R60). -/
theorem outputShape_bitOperation (decodeKey : Burst → KeyValue) (a b : Bool) (now : Millis) (rA rB : Bool) {s : State}
    (h : Inv s) (unsent : s.outputs = []) : outputShape (bitOperation decodeKey a b now rA rB s).outputs = true := by
  have stamped : Inv (timeStamp now s) := h
  have checked := outputShape_timeCheck (s := timeStamp now s) unsent rA rB
  rw [bitOperation_eq]
  rcases timeCheck_cases rA rB (timeStamp now s) with ⟨-, u, -, ended⟩ | quiet
  · rw [ended] at checked ⊢
    rw [points_counted_resetProc, counted_outputs]
    exact checked
  · rw [quiet]
    exact outputShape_points decodeKey a b rA rB (inv_keyIdle stamped) (keyIdle_unsent (s := timeStamp now s) unsent)

/-! ### Every instruction -/

/-- Every instruction that starts with an empty output list keeps to R38's shapes. -/
theorem outputShape_of_exec {i : Instr} {s t : State} (h : Inv s) (unsent : s.outputs = []) (run : exec i s = .next t) :
    outputShape t.outputs = true := by
  cases does_of_exec run with
  | init => exact outputShape_of_unsent unsent
  | bit a b => exact outputShape_bitOperation keyDecode a b s.inputs.now s.inputs.rA s.inputs.rB h unsent
  | tick => exact outputShape_timeCheck (s := measureSilence s.inputs.now s) unsent s.inputs.rA s.inputs.rB
  | query => rw [emit_outputs, unsent]; rfl
  | reset => exact outputShape_resetProc s.inputs.rA s.inputs.rB (by rw [unsent]; rfl)
  | key => exact outputShape_receivedKey unsent _
  | frame p d q =>
    exact outputShape_completeFrame (s := { s with frame := frameOf p d q, bitCount := 26 }) unsent
      s.inputs.rA s.inputs.rB

/-! ### The statements about the operation that a step runs -/

/-- Settles O45: the fetch empties the output list, and the operation then ends one cycle at most. -/
theorem operationOutputShape : Obligations.OperationOutputShape := by
  unfold Obligations.OperationOutputShape
  intro s t h requested run
  obtain ⟨r, rest, htrace⟩ := List.exists_cons_of_ne_nil requested
  rw [step_of_request h htrace] at run
  exact outputShape_of_exec (s := { s with trace := rest, inputs := r.inputs, outputs := [] }) h rfl run

/-- Settles O5: with nothing due, the fetch takes the head of the trace. -/
theorem stepRunsTheRequestedOperation : Obligations.StepRunsTheRequestedOperation := by
  unfold Obligations.StepRunsTheRequestedOperation
  rintro s r rest i between htrace rfl
  rw [step, fetch_of_request between htrace]

end Sys2Proof.Machine
end

section
/-!
# Code words and the rows they match

A CMD word is one of 32. A KEY8 word is the spelling of two windows, which agree or differ; where they agree one of sixteen
patterns is spelled, where they differ the row is KEY.MISMATCH with the two windows as its fields. A FRAME26 word is the
spelling of its three fields.
-/
namespace Sys2Proof

open Machine

/-! ### Key bursts and their windows -/

/-- A burst is its two windows (R44). -/
theorem burstOf_windows (f : Burst) : burstOf (f.extractLsb' 0 4) (f.extractLsb' 4 4) = f := by
  refine BitVec.eq_of_getLsbD_eq fun i hi => ?_
  rw [burstOf, BitVec.getLsbD_append, BitVec.getLsbD_extractLsb', BitVec.getLsbD_extractLsb']
  by_cases first : i < 4
  · simp [first]
  · simp [first, show i - 4 < 4 by omega, show 4 + (i - 4) = i by omega]

/-- A KEY8 word spells one window twice, or two windows that differ (R45). -/
theorem key8_cases (w : BitVec 8) :
    (∃ v, w = (burstOf v v).reverse) ∨ ∃ n1 n2, n1 ≠ n2 ∧ w = (burstOf n1 n2).reverse := by
  have spelled : w = (burstOf (w.reverse.extractLsb' 0 4) (w.reverse.extractLsb' 4 4)).reverse := by
    rw [burstOf_windows, BitVec.reverse_reverse_eq]
  by_cases agree : w.reverse.extractLsb' 0 4 = w.reverse.extractLsb' 4 4
  · rw [← agree] at spelled
    exact .inl ⟨_, spelled⟩
  · exact .inr ⟨_, _, agree, spelled⟩

/-- Windows that differ decode to the sentinel (R101). -/
theorem keyDecode_burstOf_of_ne {n1 n2 : BitVec 4} (differ : n1 ≠ n2) : keyDecode (burstOf n1 n2) = Config.keyNone := by
  unfold keyDecode burstOf
  rw [BitVec.extractLsb'_append_eq_left, BitVec.extractLsb'_append_eq_right, if_neg differ]

/-- Windows that differ are the row KEY.MISMATCH with their values (R45). -/
theorem decode_mismatch {n1 n2 : BitVec 4} (differ : n1 ≠ n2) :
    decode (.key8 (burstOf n1 n2).reverse) = .keyMismatch n1 n2 := by
  have fields : keyRow (burstOf n1 n2) Config.keyNone =
      .keyMismatch ((burstOf n1 n2).extractLsb' 0 4) ((burstOf n1 n2).extractLsb' 4 4) := rfl
  change keyRow (burstOf n1 n2).reverse.reverse (keyDecode (burstOf n1 n2).reverse.reverse) = _
  rw [BitVec.reverse_reverse_eq, keyDecode_burstOf_of_ne differ, fields, burstOf, BitVec.extractLsb'_append_eq_left,
    BitVec.extractLsb'_append_eq_right]

/-- The row of a KEY8 word runs the action of the value that its burst decodes to (R100). -/
theorem keyValueOf_decode_key8 (w : BitVec 8) : keyValueOf (decode (.key8 w)) = some (keyDecode w.reverse) := by
  have agreeing : ∀ v : BitVec 4, keyValueOf (decode (.key8 (burstOf v v).reverse)) =
      some (keyDecode (burstOf v v).reverse.reverse) := by decide
  rcases key8_cases w with ⟨v, rfl⟩ | ⟨n1, n2, differ, rfl⟩
  · exact agreeing v
  · rw [decode_mismatch differ, BitVec.reverse_reverse_eq, keyDecode_burstOf_of_ne differ]
    rfl

/-! ### Card frames and their fields -/

/-- A FRAME26 word whose frame is `f` stands for the row with the fields of `f` (R42). -/
theorem decode_frame26_reverse (f : FrameBits) :
    decode (.frame26 f.reverse) = .frame26 (frameBit f 0) (payloadOf f) (frameBit f 25) := by
  change decodeFrame26 f.reverse = _
  unfold decodeFrame26 payloadOf frameBit
  rw [BitVec.reverse_reverse_eq]

/-- The leading parity, the payload and the trailing parity of a frame built from them (R42). -/
theorem frameOf_fields (p : Bool) (d : BitVec 24) (q : Bool) :
    frameBit (frameOf p d q) 0 = p ∧ payloadOf (frameOf p d q) = d ∧ frameBit (frameOf p d q) 25 = q := by
  refine ⟨by simp [frameBit_frameOf], BitVec.eq_of_getLsbD_eq fun i hi => ?_, by simp [frameBit_frameOf]⟩
  rw [getLsbD_payloadOf, frameBit_frameOf, decide_eq_true hi, Bool.true_and, if_neg (by omega), if_pos (by omega),
    Nat.add_sub_cancel]

theorem decode_frameOf (p : Bool) (d : BitVec 24) (q : Bool) :
    decode (.frame26 (frameOf p d q).reverse) = .frame26 p d q := by
  obtain ⟨leading, payload, trailing⟩ := frameOf_fields p d q
  rw [decode_frame26_reverse, leading, payload, trailing]

/-- Every FRAME26 word is the spelling of the fields it decodes to (R42). -/
theorem encode_decode_frame26 (w : BitVec 26) : encode (decode (.frame26 w)) = .frame26 w := by
  have spelled := decode_frame26_reverse w.reverse
  rw [BitVec.reverse_reverse_eq] at spelled
  rw [spelled, encode, frameOf_parts, BitVec.reverse_reverse_eq]

/-! ### Decoding an encoded instruction -/

/-- Settles O1: the rows without fields one by one, the mismatch and the card frame by their fields. -/
theorem decodeInvertsEncode : Obligations.DecodeInvertsEncode := by
  unfold Obligations.DecodeInvertsEncode
  intro i wf
  cases i with
  | keyMismatch n1 n2 => exact decode_mismatch (by simpa [Instr.wf] using wf)
  | frame26 p d q => exact decode_frameOf p d q
  | _ => rfl

/-! ### The rows of the opcode table -/

/-- A word that matches a CMD row decodes to that row's instruction, where every spelling of the row does (R56). -/
theorem decode_of_cmdRow {mask pattern : BitVec 5} {i : Instr} {w : CodeWord}
    (spellings : ∀ v : BitVec 5, v &&& mask = pattern → decodeCmd v = i) (matched : cmdRow mask pattern w = true) :
    decode w = i := by
  cases w with
  | cmd v => exact spellings v (beq_iff_eq.mp matched)
  | key8 | frame26 => exact absurd matched Bool.false_ne_true

/-- A word that matches a KEY8 pattern is that pattern (R45). -/
theorem decode_of_keyPatternRow {pattern : BitVec 8} {i : Instr} {w : CodeWord} (spelling : decodeKey8 pattern = i)
    (matched : keyPatternRow pattern w = true) : decode w = i := by
  cases w with
  | key8 v => rw [beq_iff_eq.mp matched]; exact spelling
  | cmd | frame26 => exact absurd matched Bool.false_ne_true

/-- The row KEY.MISMATCH names every bit of its word (R44). -/
theorem keyMismatchRow_unique {n1 n2 : BitVec 4} {v w : BitVec 8} (hv : keyMismatchRow n1 n2 (.key8 v) = true)
    (hw : keyMismatchRow n1 n2 (.key8 w) = true) : v = w := by
  simp only [keyMismatchRow, Bool.and_eq_true, beq_iff_eq] at hv hw
  refine BitVec.eq_of_getLsbD_eq fun i hi => ?_
  interval_cases i <;> simp only [hv, hw]

/-- The row FRAME26 names every bit of its word (R42). -/
theorem frameRow_unique {p q : Bool} {d : BitVec 24} {v w : BitVec 26} (hv : frameRow p d q (.frame26 v) = true)
    (hw : frameRow p d q (.frame26 w) = true) : v = w := by
  simp only [frameRow, Bool.and_eq_true, beq_iff_eq, List.all_eq_true, List.mem_range] at hv hw
  obtain ⟨⟨leadingV, payloadV⟩, trailingV⟩ := hv
  obtain ⟨⟨leadingW, payloadW⟩, trailingW⟩ := hw
  refine BitVec.eq_of_getLsbD_eq fun i hi => ?_
  by_cases first : i = 0
  · rw [first, trailingV, trailingW]
  by_cases last : i = 25
  · rw [last, leadingV, leadingW]
  · have inside : 24 - (24 - i) = i := by omega
    rw [← inside, payloadV _ (by omega), payloadW _ (by omega)]

/-- A word decodes to the well-formed instruction whose row it matches. -/
theorem decode_of_row {i : Instr} {w : CodeWord} (wf : i.wf = true) (matched : i.row w = true) : decode w = i := by
  cases i with
  | init | bit0 | bit1 | bitBoth | bitNone | tick | query | reset | reserved5 | reserved6 | reserved7 =>
    exact decode_of_cmdRow (by decide) matched
  | keyMismatch n1 n2 =>
    cases w with
    | cmd | frame26 => exact absurd matched Bool.false_ne_true
    | key8 v =>
      rw [keyMismatchRow_unique matched (Laws.EncodesRow.keyMismatch n1 n2 wf)]
      exact decode_mismatch (by simpa [Instr.wf] using wf)
  | frame26 p d q =>
    cases w with
    | cmd | key8 => exact absurd matched Bool.false_ne_true
    | frame26 v =>
      rw [frameRow_unique matched (Laws.EncodesRow.frame26 p d q wf)]
      exact decode_frameOf p d q
  | _ => exact decode_of_keyPatternRow rfl matched

/-- Every word decodes to a well-formed instruction, whose row it matches (R45, R52). -/
theorem wf_and_row_decode (w : CodeWord) : (decode w).wf = true ∧ (decode w).row w = true := by
  cases w with
  | cmd w =>
    have words : ∀ w : BitVec 5, (decodeCmd w).wf = true ∧ (decodeCmd w).row (.cmd w) = true := by decide
    exact words w
  | key8 w =>
    have agreeing : ∀ v : BitVec 4, (decode (.key8 (burstOf v v).reverse)).wf = true ∧
        (decode (.key8 (burstOf v v).reverse)).row (.key8 (burstOf v v).reverse) = true := by decide
    rcases key8_cases w with ⟨v, rfl⟩ | ⟨n1, n2, differ, rfl⟩
    · exact agreeing v
    · have wf : (Instr.keyMismatch n1 n2).wf = true := by simpa [Instr.wf] using differ
      rw [decode_mismatch differ]
      exact ⟨wf, Laws.EncodesRow.keyMismatch n1 n2 wf⟩
  | frame26 w =>
    have row := Laws.EncodesRow.frame26 (w.reverse.getLsbD 0) (w.reverse.extractLsb' 1 24) (w.reverse.getLsbD 25) rfl
    rw [show encode (.frame26 _ _ _) = .frame26 w from encode_decode_frame26 w] at row
    exact ⟨rfl, row⟩

/-- Settles O2: a word matches the row of what it decodes to, and the row of no other well-formed instruction. -/
theorem decoderReadsTheOpcodeTable : Obligations.DecoderReadsTheOpcodeTable := by
  unfold Obligations.DecoderReadsTheOpcodeTable
  refine ⟨fun w => (wf_and_row_decode w).1, fun i w wf => ⟨?_, decode_of_row wf⟩⟩
  rintro rfl
  exact (wf_and_row_decode w).2

/-! ### Words of the spec, the default KeyDecode, the reserved selectors -/

/-- Settles O3: the fourteen words are evaluated. -/
theorem specWordsDecode : Obligations.SpecWordsDecode := by
  unfold Obligations.SpecWordsDecode
  decide

/-- The two windows are equal iff they agree position by position (R44). -/
theorem windows_eq_iff (f : Burst) :
    f.extractLsb' 0 4 = f.extractLsb' 4 4 ↔ ∀ k, k < 4 → f.getLsbD k = f.getLsbD (k + 4) := by
  have position (k : Nat) (hk : k < 4) : (f.extractLsb' 0 4).getLsbD k = f.getLsbD k ∧
      (f.extractLsb' 4 4).getLsbD k = f.getLsbD (k + 4) := by
    simp [hk, Nat.add_comm]
  constructor
  · intro equal k hk
    obtain ⟨first, second⟩ := position k hk
    rw [← first, ← second, equal]
  · intro agree
    refine BitVec.eq_of_getLsbD_eq fun k hk => ?_
    obtain ⟨first, second⟩ := position k hk
    rw [first, second, agree k hk]

/-- A window is the weighted sum of its positions, the earlier one weighing less (R44). -/
theorem window_toNat : ∀ v : BitVec 4, v.toNat =
    (v.getLsbD 0).toNat + 2 * (v.getLsbD 1).toNat + 4 * (v.getLsbD 2).toNat + 8 * (v.getLsbD 3).toNat := by
  decide

/-- Settles O4: the windows are compared whole, and they are equal iff they agree at every position. -/
theorem keyDecodeWeighsEarlierBitsLess : Obligations.KeyDecodeWeighsEarlierBitsLess := by
  unfold Obligations.KeyDecodeWeighsEarlierBitsLess
  intro f
  constructor
  · intro agree
    rw [keyDecode, if_pos ((windows_eq_iff f).mpr agree), BitVec.toNat_setWidth_of_le (by decide), window_toNat]
    simp
  · rintro ⟨k, hk, differ⟩
    rw [keyDecode, if_neg fun equal => differ ((windows_eq_iff f).mp equal k hk)]
    rfl

/-- Settles O10: each reserved selector has four spellings, and its row has no next state. -/
theorem reservedSelectorsAreRefused : Obligations.ReservedSelectorsAreRefused := by
  unfold Obligations.ReservedSelectorsAreRefused
  exact ⟨by decide, by decide, by decide, fun s => ⟨rfl, rfl, rfl⟩⟩

/-- A KEY row runs the action of its value (R45, R100). -/
theorem exec_of_keyValueOf {i : Instr} {v : KeyValue} (value : keyValueOf i = some v) (s : State) :
    exec i s = ready (receivedKey v) s := by
  cases i with
  | init | bit0 | bit1 | bitBoth | bitNone | tick | query | reset | reserved5 | reserved6 | reserved7 | frame26 =>
    cases value
  | _ => cases value; rfl

/-- Settles O31: whatever value a burst decodes to, its row asks for the keypad first. -/
theorem disabledKeypadIgnoresEveryKey : Obligations.DisabledKeypadIgnoresEveryKey := by
  unfold Obligations.DisabledKeypadIgnoresEveryKey
  intro w s initialised disabled
  rw [exec_of_keyValueOf (keyValueOf_decode_key8 w), ready_of_initialised _ initialised, receivedKey, disabled]
  rfl

end Sys2Proof
end

section
/-!
# The end of a cycle in the words of the statements

The statements count 1s, sum weights and exchange bytes by division where the model folds XORs, extracts and concatenates; they
write the end of a cycle as one list of fields. Each word of theirs is tied here to the model's.
-/
namespace Sys2Proof.Machine

open Sys2Proof.Claims

/-! ### Parities by counting -/

theorem ones_succ (f : FrameBits) (lo n : Nat) : ones f lo (n + 1) = ones f lo n + (frameBit f (lo + n)).toNat := by
  unfold ones
  rw [List.range_succ, List.filter_append, List.length_append]
  cases h : frameBit f (lo + n) <;> simp [h]

/-- The XOR over some positions says whether an odd number of them hold 1 (R8, R81). -/
theorem xorFrom_eq (f : FrameBits) (lo n : Nat) : xorFrom f lo n = decide (ones f lo n % 2 = 1) := by
  induction n with
  | zero => rfl
  | succ n ih =>
    have odd_or_even := Nat.mod_two_eq_zero_or_one (ones f lo n)
    rw [xorFrom, ih, ones_succ]
    cases frameBit f (lo + n) <;> rcases odd_or_even with even | odd <;> simp [Nat.add_mod, *]

/-- An even count is one that is not odd (R86). -/
theorem not_xorFrom_eq (f : FrameBits) (lo n : Nat) : (!xorFrom f lo n) = decide (ones f lo n % 2 = 0) := by
  rw [xorFrom_eq, ← decide_not, decide_eq_decide]
  omega

/-- The gate of R85 by counts (R86). -/
theorem paritiesGood_eq (f : FrameBits) : paritiesGood f = good f := by
  rw [paritiesGood, firstHalfParity, secondHalfParity, not_xorFrom_eq, xorFrom_eq, good]

/-- A flag set under a condition is a mask added under it. -/
theorem setFlagBit_if (g : Flag) (c : Prop) [Decidable c] (b : FlagsByte) :
    (if c then setFlagBit g b else b) = b ||| if c then flagMask g else 0 := by
  split
  · rfl
  · exact BitVec.or_zero.symm

/-- The flags of an emission pass by counts (R86). -/
theorem passSets_eq (n : BitVec 5) (f : FrameBits) (b : FlagsByte) : passSets n f b = b ||| passFlags n f := by
  have second : ¬ secondHalfParity f = true ↔ ones f 13 13 % 2 = 0 := by
    rw [secondHalfParity, Bool.not_eq_true, ← Bool.not_eq_true', not_xorFrom_eq, decide_eq_true_iff]
  have first : firstHalfParity f = true ↔ ones f 0 13 % 2 = 1 := by
    rw [firstHalfParity, xorFrom_eq, decide_eq_true_iff]
  dsimp only [passSets]
  rw [← ite_not (secondHalfParity f = true)]
  simp only [setFlagBit_if]
  simp only [first, second, paritiesGood_eq, ite_not, ne_eq, passFlags, BitVec.or_assoc]
  rfl

/-! ### The payload as a number -/

/-- The low `n` bits of a word as the sum of their weights. -/
theorem sum_weights_eq_mod {w : Nat} (v : BitVec w) (n : Nat) :
    ((List.range n).map fun i => if v.getLsbD i then 2 ^ i else 0).sum = v.toNat % 2 ^ n := by
  induction n with
  | zero => simp [Nat.mod_one]
  | succ n ih =>
    rw [List.range_succ, List.map_append, List.sum_append, ih, Nat.mod_pow_succ, ← Nat.toNat_testBit, BitVec.testBit_toNat]
    cases h : v.getLsbD n <;> simp [h]

/-- The payload is the weighted sum of frame indices 1 to 24 (R90). -/
theorem payloadOf_toNat (f : FrameBits) : (payloadOf f).toNat = payloadSum f := by
  have weights : payloadSum f =
      ((List.range 24).map fun i => if (payloadOf f).getLsbD i then 2 ^ i else 0).sum := by
    refine congrArg List.sum (List.map_congr_left fun i hi => ?_)
    rw [getLsbD_payloadOf, decide_eq_true (List.mem_range.mp hi), Bool.true_and]
  rw [weights, sum_weights_eq_mod, Nat.mod_eq_of_lt (payloadOf f).isLt]

/-- A concatenation as a number. -/
theorem toNat_append_eq {n m : Nat} (x : BitVec n) (y : BitVec m) : (x ++ y).toNat = x.toNat * 2 ^ m + y.toNat := by
  rw [BitVec.toNat_append, ← Nat.shiftLeft_add_eq_or_of_lt y.isLt, Nat.shiftLeft_eq]

/-- The byte reorder by division (R91). -/
theorem reorder_toNat (v : Payload) : (reorder true v).toNat = swapBytes v.toNat := by
  have byte (start : Nat) : (v.extractLsb' start 8).toNat = v.toNat / 2 ^ start % 256 := by
    rw [BitVec.extractLsb'_toNat, Nat.shiftRight_eq_div_pow]
  have swapped : reorder true v = v.extractLsb' 0 8 ++ v.extractLsb' 8 8 ++ v.extractLsb' 16 8 := rfl
  rw [swapped, toNat_append_eq, toNat_append_eq, byte, byte, byte, swapBytes]
  omega

/-- The payload event of an emission pass as a number (R85, R90, R91). -/
theorem passData_eq (swap : Bool) (f : FrameBits) : passData swap f = dataEvents swap f := by
  have value : reorder swap (payloadOf f) =
      BitVec.ofNat 24 (if swap then swapBytes (payloadSum f) else payloadSum f) := by
    rw [← payloadOf_toNat]
    cases swap
    · simp [reorder]
    · simp [← reorder_toNat]
  rw [passData, dataEvents, paritiesGood_eq, value]

/-! ### The end of a cycle as one list of fields -/

theorem notification_eq_report (s : State) : notification s = report s s.flags := by
  simp [notification, report, notifies, or_assoc]

/-- The reset procedure, on the side operands of the operation (R122). -/
theorem resetProc_eq_cycleEnd (s : State) : resetProc s.inputs.rA s.inputs.rB s = cycleEnd s s.flags [] := by
  rw [resetProc_eq, cycleEnd, notification_eq_report, freshFlags_eq, List.append_nil]
  simp only [Bool.and_eq_true]

/-- What an operation has gathered before the end of a cycle goes into it: the byte and the payload events (R122). -/
theorem cycleEnd_gathered (s : State) (b : FlagsByte) (es : List Event) :
    cycleEnd { s with flags := b, outputs := s.outputs ++ es } b [] = cycleEnd s b es := by
  simp [cycleEnd, report]

/-- Full-frame completion (R65, R80, R122). -/
theorem completeFrame_eq (s : State) :
    completeFrame s.inputs.rA s.inputs.rB s =
      { cycleEnd s (s.flags ||| passFlags s.bitCount s.frame) (dataEvents s.config.byteReorder s.frame) with
        accumulatedCode := if good s.frame = true then 0 else s.accumulatedCode } := by
  rw [← cycleEnd_gathered, ← passSets_eq, ← passData_eq, ← paritiesGood_eq, completeFrame, emissionPass_eq]
  exact resetProc_eq_cycleEnd _

/-- A digit value (R104, R106). -/
theorem keyAction_eq_afterDigit {v : KeyValue} (s : State) (digit : v.toNat ≤ 9) :
    keyAction v s.inputs.rA s.inputs.rB s = afterDigit v.toNat s := by
  have low : v.setWidth 4 = BitVec.ofNat 4 v.toNat := (BitVec.ofNat_toNat 4 v).symm
  have code : decimalStep s.accumulatedCode (v.setWidth 4) = BitVec.ofNat 32 (s.accumulatedCode.toNat * 10 + v.toNat) := by
    apply BitVec.eq_of_toNat_eq
    have small : v.toNat % 16 = v.toNat := by omega
    simp [decimalStep, small]
  rw [keyAction_digit s.inputs.rA s.inputs.rB (BitVec.le_def.mpr digit), afterDigit, ← cycleEnd_gathered, ← low, ← code]
  exact resetProc_eq_cycleEnd _

/-- The range of the codes that a submit dispatches (R105). -/
theorem dispatchable_iff (acc : BitVec 32) : dispatchable acc = true ↔ acc.toNat ≠ 0 ∧ acc.toNat ≤ 0xFFFFFF := by
  simp [dispatchable, Config.codeMax, BitVec.le_def, ← BitVec.toNat_inj]

/-- The flags after a submit (R105). -/
theorem submitFlags_eq (acc : BitVec 32) (b : FlagsByte) :
    submitFlags acc b = if acc.toNat ≠ 0 ∧ acc.toNat ≤ 0xFFFFFF then b ||| 0x02 else b := by
  simp only [submitFlags, dispatchable_iff]
  rfl

/-- The payload event of a submit (R105). -/
theorem submitEvents_eq (acc : BitVec 32) :
    submitEvents acc = if acc.toNat ≠ 0 ∧ acc.toNat ≤ 0xFFFFFF then [.code (BitVec.ofNat 24 acc.toNat)] else [] := by
  simp only [submitEvents, dispatchable_iff, BitVec.ofNat_toNat]

/-- The submit sentinel (R105, R106). -/
theorem keyAction_submit_eq (s : State) :
    keyAction Config.submitValue s.inputs.rA s.inputs.rB s =
      { cycleEnd s (submitFlags s.accumulatedCode s.flags) (submitEvents s.accumulatedCode) with
        accumulatedCode := 0 } := by
  rw [← cycleEnd_gathered, keyAction_submit, submitCode_eq]
  exact resetProc_eq_cycleEnd _

/-! ### FRAME26 -/

/-- The frame that holds the three fields is the one built from them (R42). -/
theorem eq_frameOf_of_holds {p : Bool} {d : BitVec 24} {q : Bool} {f : FrameBits} (h : Holds p d q f) :
    f = frameOf p d q := by
  obtain ⟨leading, payload, trailing⟩ := h
  have fields : payloadOf f = d := BitVec.eq_of_getLsbD_eq fun i hi => by
    rw [getLsbD_payloadOf, decide_eq_true hi, Bool.true_and, payload i hi]
  rw [← frameOf_parts f, leading, fields, trailing]

/-- Settles O24: the row is full-frame completion with its fields in the buffer and the count at 26. -/
theorem receivedFrameIsJudgedByItsParities : Obligations.ReceivedFrameIsJudgedByItsParities := by
  unfold Obligations.ReceivedFrameIsJudgedByItsParities
  intro p d q s f initialised holds
  obtain rfl := eq_frameOf_of_holds holds
  have row : exec (.frame26 p d q) s = ready (receivedFrame p d q) s := rfl
  rw [row, ready_of_initialised _ initialised]
  exact congrArg _ (completeFrame_eq { s with frame := frameOf p d q, bitCount := 26 })

end Sys2Proof.Machine
end

section
/-!
# One bit in the words of the statements

Outside a frame-gap timeout steps 1 to 4 of BIT (R60) leave the state `counted a b (stamped s)`; step 5 is due where that count
was the eighth of its group, step 6 where it was the 26th.
-/
namespace Sys2Proof.Machine

open Sys2Proof.Claims

/-! ### Steps 1 and 2: the clock -/

/-- The frame-gap rule of a BIT fires iff the frame has been silent (R70, R73). -/
theorem gapExpired_iff_silent (s : State) : gapExpired (keyIdle (timeStamp s.inputs.now s)) = true ↔ silent s := by
  rw [gapExpired_iff, keyIdle_eq]
  exact Iff.rfl

/-- Steps 1 and 2 of BIT outside a timeout (R70, R72). -/
theorem timeCheck_timeStamp_of_quiet {s : State} (quiet : ¬ silent s) (rA rB : Bool) :
    timeCheck rA rB (timeStamp s.inputs.now s) = stamped s := by
  have unexpired := Bool.eq_false_iff.mpr fun expired => quiet ((gapExpired_iff_silent s).mp expired)
  rw [timeCheck, frameGap_of_quiet rA rB unexpired, keyIdle_eq]
  rfl

/-! ### Steps 3 and 4: the sample and the counts -/

/-- What sampling and counting write (R62, R63, R64). -/
theorem counted_eq (a b : Bool) (s : State) :
    counted a b s =
      { s with
        frame := (counted a b s).frame
        flags := sampledFlags a b s
        bitCount := s.bitCount + 1
        keyBitCount := keyCounted s } := by
  unfold counted sampledFlags
  by_cases ambiguous : a = b
  · rw [sample_of_eq ambiguous, if_pos ambiguous]
    rfl
  · rw [sample_of_ne ambiguous, if_neg ambiguous]
    rfl

/-- The frame after sampling, position by position (R62, R63). -/
theorem sampled_counted (a b : Bool) (s : State) : Sampled a b s (counted a b s).frame := by
  intro j hj
  unfold counted
  by_cases ambiguous : a = b
  · rw [sample_of_eq ambiguous, if_neg fun h => h.2 ambiguous]
    rfl
  · rw [sample_of_ne ambiguous, count_frame, append_frame, frameBit_setFrameBit]
    simp [hj, ambiguous]

/-- An ambiguous pair writes no slot (R63). -/
theorem counted_frame_of_ambiguous (a : Bool) (s : State) : (counted a a s).frame = s.frame := by
  rw [counted, sample_of_eq rfl]
  rfl

/-! ### Steps 5 and 6 -/

/-- Step 5 is due after the eighth bit of a group, in the extended variant (R60). -/
theorem keyDue_counted_iff (a b : Bool) (s : State) :
    keyDue (counted a b s) = true ↔ s.config.keypadEnable = true ∧ s.keyBitCount = 7 := by
  rw [keyDue_iff, counted_config, counted_keyBitCount]
  refine and_congr_right fun keypad => ?_
  rw [keyAdvanced, if_pos keypad]
  constructor <;> intro h <;> bv_omega

/-- Step 6 is due after the 26th bit (R60). -/
theorem frameDue_counted_iff (a b : Bool) (s : State) : frameDue (counted a b s) = true ↔ s.bitCount = 25 := by
  rw [frameDue_iff, counted_bitCount]
  constructor <;> intro h <;> bv_omega

/-! ### The rows -/

theorem exec_bitRow (a b : Bool) (s : State) : exec (bitRow a b) s = ready (bitEvent a b) s := by
  cases a <;> cases b <;> rfl

section Quiet

variable {s : State} (initialised : s.initialised = true) (quiet : ¬ silent s) (a b : Bool)
include initialised quiet

/-- A BIT outside a timeout (R60). -/
theorem exec_bitRow_of_quiet :
    exec (bitRow a b) s = .next (framePoint s.inputs.rA s.inputs.rB
      (keyPoint keyDecode s.inputs.rA s.inputs.rB (counted a b (stamped s)))) := by
  rw [exec_bitRow, ready_of_initialised _ initialised, bitEvent, bitOperation_eq, timeCheck_timeStamp_of_quiet quiet]

variable (notEighth : s.config.keypadEnable = false ∨ s.keyBitCount ≠ 7)
include notEighth

/-- A BIT that is no eighth of a group: only step 6 can be due (R60). -/
theorem exec_bitRow_of_not_eighth :
    exec (bitRow a b) s = .next (framePoint s.inputs.rA s.inputs.rB (counted a b (stamped s))) := by
  have noBurst : keyDue (counted a b (stamped s)) = false := Bool.eq_false_iff.mpr fun due => by
    obtain ⟨keypad, eighth⟩ := (keyDue_counted_iff a b (stamped s)).mp due
    rcases notEighth with basic | notEighth
    · cases keypad.symm.trans basic
    · exact notEighth eighth
  rw [exec_bitRow_of_quiet initialised quiet, keyPoint_of_not_due _ _ _ noBurst]

/-- A BIT that is neither an eighth of a group nor the 26th (R60). -/
theorem exec_bitRow_of_not_due (notLast : s.bitCount ≠ 25) :
    exec (bitRow a b) s = .next (counted a b (stamped s)) := by
  have noFrame : frameDue (counted a b (stamped s)) = false :=
    Bool.eq_false_iff.mpr fun due => notLast ((frameDue_counted_iff a b (stamped s)).mp due)
  rw [exec_bitRow_of_not_eighth initialised quiet a b notEighth, framePoint_of_not_due _ _ noFrame]

end Quiet

/-- Settles O16: neither step 5 nor step 6 is due, and an unambiguous pair leaves the flags alone. -/
theorem bitAppendsAndCounts : Obligations.BitAppendsAndCounts := by
  unfold Obligations.BitAppendsAndCounts
  intro a b s unambiguous initialised quiet notLast notEighth
  refine ⟨(counted a b (stamped s)).frame, sampled_counted a b (stamped s), ?_⟩
  rw [exec_bitRow_of_not_due initialised quiet a b notEighth notLast, counted_eq, sampledFlags, if_neg unambiguous]
  rfl

/-- Settles O17: neither step 5 nor step 6 is due, and an ambiguous pair leaves the frame alone. -/
theorem ambiguousBitSetsLogicFaultAndCounts : Obligations.AmbiguousBitSetsLogicFaultAndCounts := by
  unfold Obligations.AmbiguousBitSetsLogicFaultAndCounts
  intro a s initialised quiet notLast notEighth
  rw [exec_bitRow_of_not_due initialised quiet a a notEighth notLast, counted_eq, counted_frame_of_ambiguous, sampledFlags,
    if_pos rfl]
  rfl

/-- The row of the frame `f` is full-frame completion with `f` in the buffer and the count at 26 (R42, R65). -/
theorem exec_frame_row {s : State} (f : FrameBits) (initialised : s.initialised = true) :
    exec (decode (.frame26 f.reverse)) s =
      .next (completeFrame s.inputs.rA s.inputs.rB { s with frame := f, bitCount := 26 }) := by
  have row (p : Bool) (d : BitVec 24) (q : Bool) : exec (.frame26 p d q) s = ready (receivedFrame p d q) s := rfl
  rw [decode_frame26_reverse, row, ready_of_initialised _ initialised, receivedFrame, frameOf_parts]

/-- Settles O22: step 6 is full-frame completion, and so is the row, on the frame that the counted state already holds. -/
theorem completingBitRunsTheFrameRow : Obligations.CompletingBitRunsTheFrameRow := by
  unfold Obligations.CompletingBitRunsTheFrameRow
  intro a b s initialised quiet last notEighth
  have due : frameDue (counted a b (stamped s)) = true := (frameDue_counted_iff a b (stamped s)).mpr last
  have full : (stamped s).bitCount + 1 = 26 := by
    rw [show (stamped s).bitCount = 25 from last]
    rfl
  refine ⟨(counted a b (stamped s)).frame, sampled_counted a b (stamped s), ?_⟩
  rw [exec_bitRow_of_not_eighth initialised quiet a b notEighth, framePoint_of_due _ _ due, exec_frame_row]
  · conv_lhs => rw [counted_eq a b (stamped s), full]
    rfl
  · exact initialised

end Sys2Proof.Machine
end

section
/-!
# What the channels carry

Between operations the flags are Initialized with ConnectionOk and LogicFault or without them (R23); what an operation adds before
the end of a cycle is one of R147's nine endings. `Allowed s` says that what `s` has emitted so far keeps to R47 and R147.
-/
namespace Sys2Proof.Machine

open Sys2Proof.Claims

/-- An event that its channel can carry, and where it is a state byte one of R147's (R47, R147). -/
def Permitted (e : Event) : Prop :=
  channelValue e = true ∧ ∀ b, e = .state b → reportable b = true

/-- Every event of the output list is permitted. -/
def Allowed (s : State) : Prop :=
  ∀ e ∈ s.outputs, Permitted e

theorem permitted_state {b : FlagsByte} (h : reportable b = true) : Permitted (.state b) :=
  ⟨rfl, fun _ same => Event.state.inj same ▸ h⟩

theorem permitted_data (v : Payload) : Permitted (.data v) := ⟨rfl, nofun⟩

theorem permitted_digit {v : BitVec 4} (h : v ≤ 9) : Permitted (.digit v) := ⟨decide_eq_true h, nofun⟩

theorem permitted_code {v : Payload} (h : v ≠ 0) : Permitted (.code v) := ⟨decide_eq_true h, nofun⟩

theorem allowed_of_unsent {s : State} (unsent : s.outputs = []) : Allowed s := by
  simp [Allowed, unsent]

theorem allowed_append {s t : State} {es : List Event} (h : Allowed s) (added : ∀ e ∈ es, Permitted e)
    (houtputs : t.outputs = s.outputs ++ es) : Allowed t := by
  unfold Allowed
  rw [houtputs]
  exact List.forall_mem_append.mpr ⟨h, added⟩

/-! ### The state bytes -/

/-- The flags between operations (R23 (iv), (v), (vii)). -/
theorem settled_mem {b : FlagsByte} (h : Settled b) : b ∈ [0x01#8, 0x05#8, 0x09#8, 0x0D#8] := by
  revert b
  unfold Settled
  decide +kernel

/-- Settled flags with one of the nine endings make a byte of R147. -/
theorem reportable_or_ending {b e : FlagsByte} (h : Settled b) (ending : e ∈ endingFlags) : reportable (b ||| e) = true := by
  have bytes : ∀ b ∈ [0x01#8, 0x05#8, 0x09#8, 0x0D#8], ∀ e ∈ endingFlags, reportable (b ||| e) = true := by decide
  exact bytes b (settled_mem h) e ending

/-- Of a full frame a pass sets the parity flags, or DataSent where there is none (R86). -/
theorem passFlags_full_mem (f : FrameBits) : passFlags 26 f ∈ [0x02#8, 0x40#8, 0x80#8, 0xC0#8] := by
  by_cases odd : ones f 0 13 % 2 = 1 <;> by_cases even : ones f 13 13 % 2 = 0 <;> simp [passFlags, good, odd, even]

/-- Of a partial frame it sets BitsFault besides (R82, R86). -/
theorem passFlags_partial {n : BitVec 5} (notFull : n ≠ 26) (f : FrameBits) : passFlags n f = 0x20 ||| passFlags 26 f := by
  rw [passFlags, if_neg notFull, passFlags, if_pos rfl]
  simp only [BitVec.ofNat_eq_ofNat, BitVec.zero_or, BitVec.or_assoc]

/-- The endings of a full frame (R147). -/
theorem passFlags_full_ending (f : FrameBits) : passFlags 26 f ∈ endingFlags := by
  have endings : ∀ e ∈ [0x02#8, 0x40#8, 0x80#8, 0xC0#8], e ∈ endingFlags := by decide
  exact endings _ (passFlags_full_mem f)

/-- The endings of a partial frame, which a frame-gap timeout closes (R73, R147). -/
theorem passFlags_partial_ending {n : BitVec 5} (notFull : n ≠ 26) (f : FrameBits) :
    0x10 ||| passFlags n f ∈ endingFlags := by
  have endings : ∀ e ∈ [0x02#8, 0x40#8, 0x80#8, 0xC0#8], 0x10 ||| (0x20 ||| e) ∈ endingFlags := by decide
  rw [passFlags_partial notFull]
  exact endings _ (passFlags_full_mem f)

theorem reportable_of_settled {b : FlagsByte} (h : Settled b) : reportable b = true := by
  simpa using reportable_or_ending (e := 0x00) h (by decide)

theorem reportable_dataSent {b : FlagsByte} (h : Settled b) : reportable (setFlagBit .dataSent b) = true :=
  reportable_or_ending (e := 0x02) h (by decide)

/-! ### The end of a cycle -/

section Emitted

variable {s : State} (h : Allowed s)
include h

theorem allowed_resetProc (rA rB : Bool) (byte : reportable s.flags = true) : Allowed (resetProc rA rB s) := by
  refine allowed_append (es := notification s) h (fun e he => ?_) (by rw [resetProc_eq])
  unfold notification at he
  split at he
  · rw [List.mem_singleton.mp he]
    exact permitted_state byte
  · cases he

/-- An emission pass adds at most a payload, and the byte it gathers is reportable if the pass's own flags make it so. -/
theorem allowed_completeFrame (rA rB : Bool) (byte : reportable (s.flags ||| passFlags s.bitCount s.frame) = true) :
    Allowed (completeFrame rA rB s) := by
  have passed : Allowed (emissionPass s) := by
    refine allowed_append (es := passData s.config.byteReorder s.frame) h (fun e he => ?_) (by rw [emissionPass_eq])
    unfold passData at he
    split at he
    · rw [List.mem_singleton.mp he]
      exact permitted_data _
    · cases he
  refine allowed_resetProc passed rA rB ?_
  rw [emissionPass_eq, passSets_eq]
  exact byte

variable (settled : Settled s.flags)
include settled

theorem allowed_frameGap (rA rB : Bool) (notFull : s.bitCount ≠ 26) : Allowed (frameGap rA rB s) := by
  cases expired : gapExpired s
  · rw [frameGap_of_quiet rA rB expired]
    exact h
  · rw [frameGap_of_expired rA rB expired]
    refine allowed_completeFrame (s := setFlag .receiveTimeout s) h rA rB ?_
    have byte := reportable_or_ending settled (passFlags_partial_ending notFull s.frame)
    rwa [← BitVec.or_assoc] at byte

theorem allowed_framePoint (rA rB : Bool) : Allowed (framePoint rA rB s) := by
  unfold framePoint
  split
  · have full : s.bitCount = 26 := frameDue_iff.mp ‹_›
    refine allowed_completeFrame h rA rB ?_
    rw [full]
    exact reportable_or_ending settled (passFlags_full_ending s.frame)
  · exact h

theorem allowed_digit (rA rB : Bool) {v : KeyValue} (digit : v ≤ Config.lastDigit) :
    Allowed (resetProc rA rB (enterDigit (v.setWidth 4) s)) := by
  have small : v.setWidth 4 ≤ 9 := by
    unfold Config.lastDigit at digit
    bv_omega
  have entered : Allowed (enterDigit (v.setWidth 4) s) :=
    allowed_append h (by simpa using permitted_digit small) (enterDigit_outputs s _)
  exact allowed_resetProc entered rA rB (reportable_dataSent settled)

/-- A dispatched code fits its channel and is not 0 (R105). -/
theorem allowed_submit (rA rB : Bool) : Allowed (resetProc rA rB (submitCode s)) := by
  have submitted : Allowed (submitCode s) := by
    refine allowed_append (es := submitEvents s.accumulatedCode) h (fun e he => ?_) (by rw [submitCode_eq])
    rw [submitEvents_eq] at he
    split at he
    · rw [List.mem_singleton.mp he]
      exact permitted_code (by bv_omega)
    · cases he
  refine allowed_resetProc submitted rA rB ?_
  rw [submitCode_eq]
  dsimp only [submitFlags]
  split
  · exact reportable_dataSent settled
  · exact reportable_of_settled settled

theorem allowed_keyAction (v : KeyValue) (rA rB : Bool) : Allowed (keyAction v rA rB s) := by
  rcases keyAction_cases v rA rB s with ⟨small, digit⟩ | ⟨-, submit⟩ | ⟨-, -, ignored⟩
  · rw [digit]
    exact allowed_digit h settled rA rB small
  · rw [submit]
    exact allowed_submit h settled rA rB
  · rwa [ignored]

end Emitted

/-! ### Every instruction -/

theorem settled_of_inv {s : State} (h : Inv s) : Settled s.flags := by
  obtain ⟨-, -, -, -, settled⟩ := (inv_iff s).mp h
  exact settled

theorem allowed_timeCheck {s : State} (h : Inv s) (allowed : Allowed s) (rA rB : Bool) : Allowed (timeCheck rA rB s) := by
  have idled : Inv (keyIdle s) := inv_keyIdle h
  have notFull := frameDue_iff.not.mp (Bool.eq_false_iff.mp (nothing_due_of_inv idled).2)
  have same : Allowed (keyIdle s) := by rwa [Allowed, keyIdle_eq]
  exact allowed_frameGap same (settled_of_inv idled) rA rB notFull

theorem allowed_points (decodeKey : Burst → KeyValue) (a b rA rB : Bool) {s : State} (h : Inv s) (allowed : Allowed s) :
    Allowed (framePoint rA rB (keyPoint decodeKey rA rB (counted a b s))) := by
  have sampled : Allowed (counted a b s) := by rwa [Allowed, counted_outputs]
  have settled : Settled (counted a b s).flags := settled_counted a b (settled_of_inv h)
  cases due : keyDue (counted a b s)
  · rw [keyPoint_of_not_due decodeKey rA rB due]
    exact allowed_framePoint sampled settled rA rB
  · have below := below_of_keyDue_counted h due
    have notFull : (counted a b s).bitCount ≠ 26 := by
      rw [counted_bitCount]
      bv_omega
    rw [keyPoint_of_due decodeKey rA rB due,
      framePoint_of_not_due rA rB (frameDue_keyAction (s := { counted a b s with keyBitCount := 0 }) _ rA rB notFull)]
    exact allowed_keyAction (s := { counted a b s with keyBitCount := 0 }) sampled settled _ rA rB

theorem allowed_receivedKey (v : KeyValue) {s : State} (h : Inv s) (allowed : Allowed s) : Allowed (receivedKey v s) := by
  unfold receivedKey
  split
  · exact allowed_keyAction allowed (settled_of_inv h) v s.inputs.rA s.inputs.rB
  · exact allowed

theorem allowed_receivedFrame (p : Bool) (d : BitVec 24) (q : Bool) {s : State} (h : Inv s) (allowed : Allowed s) :
    Allowed (receivedFrame p d q s) :=
  allowed_completeFrame (s := { s with frame := frameOf p d q, bitCount := 26 }) allowed s.inputs.rA s.inputs.rB
    (reportable_or_ending (b := s.flags) (settled_of_inv h) (passFlags_full_ending (frameOf p d q)))

/-- Every instruction adds permitted events only. -/
theorem allowed_of_exec {i : Instr} {s t : State} (h : Inv s) (allowed : Allowed s) (run : exec i s = .next t) :
    Allowed t := by
  have settled := settled_of_inv h
  cases does_of_exec run with
  | init => exact allowed
  | bit a b =>
    have stamped : Inv (timeStamp s.inputs.now s) := h
    have checked := allowed_timeCheck (s := timeStamp s.inputs.now s) stamped allowed s.inputs.rA s.inputs.rB
    exact allowed_points keyDecode a b s.inputs.rA s.inputs.rB (inv_timeCheck _ _ stamped) checked
  | tick => exact allowed_timeCheck (s := measureSilence s.inputs.now s) h allowed s.inputs.rA s.inputs.rB
  | query =>
    exact allowed_append allowed (by simpa using permitted_state (reportable_of_settled settled)) (emit_outputs s _)
  | reset => exact allowed_resetProc allowed s.inputs.rA s.inputs.rB (reportable_of_settled settled)
  | key => exact allowed_receivedKey _ h allowed
  | frame p d q => exact allowed_receivedFrame p d q h allowed

/-- Settles O46: the fetch empties the output list, and the operation adds permitted events only. -/
theorem channelValuesAndStateBytes : Obligations.ChannelValuesAndStateBytes := by
  unfold Obligations.ChannelValuesAndStateBytes
  intro s t e h requested run emitted
  obtain ⟨r, rest, htrace⟩ := List.exists_cons_of_ne_nil requested
  rw [step_of_request h htrace] at run
  exact allowed_of_exec (s := { s with trace := rest, inputs := r.inputs, outputs := [] }) h (allowed_of_unsent rfl) run
    e emitted

end Sys2Proof.Machine
end

section
/-!
# Reading a frame bit by bit

`Reading s bit ops k u`: from a state `s` with an empty frame, `k` bits have been requested, the `i`-th being `bit i` with the
side operands `ops i`, and `u` is the state after the last of them, no key action having run. One more bit makes one more step;
where step 5 or step 6 of BIT (R60) is then due it acts on such a state.
-/
namespace Sys2Proof.Machine

open Sys2Proof.Claims

/-- LastTimestamp after `k` bits (R18). -/
def timeAfter (s : State) (ops : Nat → Inputs) : Nat → Millis
  | 0 => s.lastTimestamp
  | k + 1 => (ops k).now

/-- AccumulatedCode after `k` bits: the key-idle rule applies to the first one alone (R72). -/
def codeAfter (s : State) (ops : Nat → Inputs) : Nat → BitVec 32
  | 0 => s.accumulatedCode
  | _ + 1 => if ((ops 0).now - s.lastTimestamp).toNat > 5000 then 0 else s.accumulatedCode

/-- The state after `k` bits of a frame that began in `s`. -/
structure Reading (s : State) (bit : Nat → Bool) (ops : Nat → Inputs) (k : Nat) (u : State) : Prop where
  initialised : u.initialised = true
  count : u.bitCount.toNat = k
  keyCount : u.keyBitCount = keyCountOf u.config.keypadEnable u.bitCount
  position : ∀ j, j < 26 → frameBit u.frame j = (decide (j < k) && bit j)
  code : u.accumulatedCode = codeAfter s ops k
  clock : u.lastTimestamp = timeAfter s ops k
  flags : u.flags = s.flags
  snapshot : u.snapshot = s.snapshot
  pending : u.firstPending = s.firstPending
  config : u.config = s.config
  operands : ∀ j, k = j + 1 → u.inputs = ops j
  unsent : k ≠ 0 → u.outputs = []

/-- A state with an empty frame has read no bit of the next one. -/
theorem reading_zero {s : State} (h : Inv s) (empty : s.bitCount = 0) (bit : Nat → Bool) (ops : Nat → Inputs) :
    Reading s bit ops 0 s := by
  obtain ⟨⟨initialised, -⟩, -, blank, keyCount, -⟩ := (inv_iff s).mp h
  have zero : s.bitCount.toNat = 0 := by rw [empty]; rfl
  exact {
    initialised, keyCount
    count := zero
    position := fun j hj => blank ⟨j, hj⟩ (by omega)
    code := rfl
    clock := rfl
    flags := rfl
    snapshot := rfl
    pending := rfl
    config := rfl
    operands := nofun
    unsent := fun nonzero => absurd rfl nonzero }

/-- The state in which the operation of a request runs (R35, R38). -/
def fetched (s : State) (ops : Inputs) (rest : List Request) : State :=
  { s with trace := rest, inputs := ops, outputs := [] }

/-- The state after steps 1 to 4 of the BIT that a request of the bit `b` runs, with KeyBitCount back at 0 on reaching 8 (R60). -/
def afterBit (b : Bool) (ops : Inputs) (rest : List Request) (u : State) : State :=
  carriedOn (counted (!b) b (stamped (fetched u ops rest)))

theorem decode_bitRequest (b : Bool) (ops : Inputs) : decode (.cmd (bitRequest b ops).cmd) = bitRow (!b) b := by
  have words : ∀ b, decodeCmd (if b then 0b00101 else 0b00110) = bitRow (!b) b := by decide
  exact words b

/-! ### Steps 1 to 4 of BIT -/

section AfterBit

variable (b : Bool) (ops : Inputs) (rest : List Request) (u : State)

/-- What steps 1 to 4 write: the clock's elements, the frame and the two counts (R60). -/
theorem afterBit_eq :
    afterBit b ops rest u =
      { stamped (fetched u ops rest) with
        frame := (afterBit b ops rest u).frame
        bitCount := u.bitCount + 1
        keyBitCount := (afterBit b ops rest u).keyBitCount } := by
  unfold afterBit carriedOn
  rw [counted_eq, sampledFlags, if_neg (by simp)]
  rfl

theorem afterBit_bitCount : (afterBit b ops rest u).bitCount = u.bitCount + 1 := by
  rw [afterBit_eq]

theorem afterBit_trace : (afterBit b ops rest u).trace = rest := by
  rw [afterBit_eq]
  rfl

/-- The slot `BitCount` takes the bit (R62). -/
theorem frameBit_afterBit {j : Nat} (hj : j < 26) :
    frameBit (afterBit b ops rest u).frame j = if j = u.bitCount.toNat then b else frameBit u.frame j :=
  (sampled_counted (!b) b (stamped (fetched u ops rest)) j hj).trans (if_congr (and_iff_left (by simp)) rfl rfl)

/-- KeyBitCount keeps to the count of the frame (R23 (iii)). -/
theorem afterBit_keyBitCount (hcount : u.bitCount ≤ 25)
    (hkey : u.keyBitCount = keyCountOf u.config.keypadEnable u.bitCount) :
    (afterBit b ops rest u).keyBitCount = keyCountOf u.config.keypadEnable (u.bitCount + 1) := by
  rw [← keyCountOf_add_one u.config.keypadEnable u.bitCount hcount, ← hkey]
  unfold afterBit carriedOn keyDue
  rw [counted_config, counted_keyBitCount]
  rfl

end AfterBit

/-- A value that selects no action (R108). -/
theorem keyAction_of_ignoredValue {v : KeyValue} (ignored : ignoredValue v) (rA rB : Bool) (s : State) :
    keyAction v rA rB s = s := by
  obtain ⟨noDigit, noSubmit⟩ := ignored
  refine keyAction_ignored rA rB (fun digit => Nat.not_lt.mpr (BitVec.le_def.mp digit) noDigit) ?_
  rintro rfl
  exact noSubmit rfl

section Step

variable {s u : State} {bit : Nat → Bool} {ops : Nat → Inputs} {k n : Nat} (h : Reading s bit ops k u)
  (spaced : Spaced n ops) (hk : k < n)
include h

/-- Between two bits nothing is due (R23 (i), (iii)). -/
theorem Reading.nothing_due (small : k < 26) : keyDue u = false ∧ frameDue u = false := by
  have noBurst : ∀ (keypad : Bool) (n : BitVec 5), keyCountOf keypad n ≠ 8 := by decide
  have notFull : u.bitCount ≠ 26 := fun full => by
    have count := h.count
    rw [full] at count
    exact absurd small (by simp [← count])
  exact ⟨Bool.eq_false_iff.mpr fun due => noBurst _ _ (h.keyCount.symm.trans (keyDue_iff.mp due).2),
    Bool.eq_false_iff.mpr fun due => notFull (frameDue_iff.mp due)⟩

/-- Before the eighth bit of a group at least seven bits are there, and not 25 (R23 (iii)). -/
theorem Reading.eighth (eighth : u.config.keypadEnable = true ∧ u.keyBitCount = 7) : 7 ≤ k ∧ u.bitCount + 1 ≠ 26 := by
  have groups : ∀ n : BitVec 5, keyCountOf true n = 7 → 7 ≤ n.toNat ∧ n + 1 ≠ 26 := by decide
  obtain ⟨keypad, seven⟩ := eighth
  rw [h.keyCount, keypad] at seven
  rw [← h.count]
  exact groups u.bitCount seven

/-- Once eight bits have been read, the burst is theirs (R44). -/
theorem Reading.burst (eight : 8 ≤ k) {j : Nat} (hj : j < 8) : (burstBits u.frame).getLsbD j = bit j := by
  rw [getLsbD_burstBits, h.position j (by omega), decide_eq_true hj, decide_eq_true (by omega), Bool.true_and,
    Bool.true_and]

include spaced hk

/-- Between two bits of a frame no more than 20 ms pass (R168). -/
theorem Reading.gap_le (inProgress : k ≠ 0) (rest : List Request) : (gap (fetched u (ops k) rest)).toNat ≤ 20 := by
  obtain ⟨k, rfl⟩ := Nat.exists_eq_succ_of_ne_zero inProgress
  have short := spaced k hk
  rwa [show (ops k).now = u.lastTimestamp from h.clock.symm] at short

/-- No bit of a frame finds it silent (R73). -/
theorem Reading.not_silent (rest : List Request) : ¬ silent (fetched u (ops k) rest) := by
  rintro ⟨long, inProgress⟩
  have started : k ≠ 0 := fun zero => inProgress (BitVec.eq_of_toNat_eq (h.count.trans zero))
  exact absurd long (Nat.not_lt.mpr (h.gap_le spaced hk started rest))

/-- The key-idle rule can act at the first bit of a frame, and at no later one (R72). -/
theorem Reading.idledCode_eq (rest : List Request) : idledCode (fetched u (ops k) rest) = codeAfter s ops (k + 1) := by
  have code : (fetched u (ops k) rest).accumulatedCode = codeAfter s ops k := h.code
  have clock : gap (fetched u (ops k) rest) = (ops k).now - timeAfter s ops k := by rw [← h.clock]; rfl
  unfold idledCode
  cases k with
  | zero => rw [code, clock]; rfl
  | succ k =>
    have short := h.gap_le spaced hk (Nat.succ_ne_zero k) rest
    rw [if_neg (by omega), code]
    rfl

/-- One bit more. -/
theorem Reading.succ (small : k < 26) (rest : List Request) :
    Reading s bit ops (k + 1) (afterBit (bit k) (ops k) rest u) := by
  have hcount : u.bitCount ≤ 25 := by
    have count := h.count
    bv_omega
  have keyCount := afterBit_keyBitCount (bit k) (ops k) rest u hcount h.keyCount
  have code := h.idledCode_eq spaced hk rest
  have position (j : Nat) (hj : j < 26) :
      frameBit (afterBit (bit k) (ops k) rest u).frame j = (decide (j < k + 1) && bit j) := by
    rw [frameBit_afterBit _ _ _ _ hj, h.count, h.position j hj]
    by_cases slot : j = k
    · simp [slot]
    · simp [slot, show j < k + 1 ↔ j < k by omega]
  rw [afterBit_eq] at keyCount ⊢
  exact {
    initialised := h.initialised
    count := (toNat_add_one hcount).trans (by rw [h.count])
    keyCount := keyCount
    position := position
    code := code
    clock := rfl
    flags := h.flags
    snapshot := h.snapshot
    pending := h.pending
    config := h.config
    operands := by rintro j ⟨⟩; rfl
    unsent := fun _ => rfl }

/-! ### One step -/

variable (small : k < 26) {rest : List Request} (htrace : u.trace = bitRequest (bit k) (ops k) :: rest)
include small htrace

/-- The step of a bit runs the BIT operation, outside a timeout (R60). -/
theorem Reading.step_eq :
    step u = .next (framePoint (ops k).rA (ops k).rB (keyPoint keyDecode (ops k).rA (ops k).rB
      (counted (!bit k) (bit k) (stamped (fetched u (ops k) rest))))) := by
  rw [step, fetch_of_request (.inr (h.nothing_due small)) htrace]
  dsimp only
  rw [decode_bitRequest]
  exact exec_bitRow_of_quiet (s := fetched u (ops k) rest) h.initialised (h.not_silent spaced hk rest) _ _

/-- Where the bit is the eighth of a group the step ends with the key action (R60 step 5). -/
theorem Reading.step_of_burst (eighth : u.config.keypadEnable = true ∧ u.keyBitCount = 7) :
    step u = .next (keyAction (keyDecode (burstBits (afterBit (bit k) (ops k) rest u).frame))
      (ops k).rA (ops k).rB (afterBit (bit k) (ops k) rest u)) := by
  have due := (keyDue_counted_iff (!bit k) (bit k) (stamped (fetched u (ops k) rest))).mpr eighth
  have notFull : (afterBit (bit k) (ops k) rest u).bitCount ≠ 26 := by
    rw [afterBit_bitCount]
    exact (h.eighth eighth).2
  rw [h.step_eq spaced hk small htrace, keyPoint_of_due _ _ _ due, ← carriedOn_of_due due]
  exact congrArg _ (framePoint_of_not_due _ _ (frameDue_keyAction _ _ _ notFull))

/-- Where it is not, the step ends with step 6 of R60. -/
theorem Reading.step_of_no_burst (notEighth : ¬ (u.config.keypadEnable = true ∧ u.keyBitCount = 7)) :
    step u = .next (framePoint (ops k).rA (ops k).rB (afterBit (bit k) (ops k) rest u)) := by
  have notDue : keyDue (counted (!bit k) (bit k) (stamped (fetched u (ops k) rest))) = false :=
    Bool.eq_false_iff.mpr fun due => notEighth ((keyDue_counted_iff _ _ (stamped (fetched u (ops k) rest))).mp due)
  rw [h.step_eq spaced hk small htrace, keyPoint_of_not_due _ _ _ notDue, afterBit, carriedOn_of_not_due notDue]

/-- A bit that is not the 26th and completes no burst with an action is one bit more (R54, R108). -/
theorem Reading.step_of_more (notLast : k ≠ 25)
    (ignored : s.config.keypadEnable = true → 7 ≤ k →
      ignoredValue (keyDecode (burstBits (afterBit (bit k) (ops k) rest u).frame))) :
    step u = .next (afterBit (bit k) (ops k) rest u) := by
  by_cases eighth : u.config.keypadEnable = true ∧ u.keyBitCount = 7
  · obtain ⟨seven, -⟩ := h.eighth eighth
    rw [h.step_of_burst spaced hk small htrace eighth, keyAction_of_ignoredValue]
    exact ignored (h.config ▸ eighth.1) seven
  · have notFull : frameDue (afterBit (bit k) (ops k) rest u) = false := by
      refine Bool.eq_false_iff.mpr fun full => notLast ?_
      have count := (h.succ spaced hk small rest).count
      rw [frameDue_iff.mp full] at count
      exact Nat.succ_injective count.symm
    rw [h.step_of_no_burst spaced hk small htrace eighth, framePoint_of_not_due _ _ notFull]

/-- The 26th bit completes the frame (R65). -/
theorem Reading.step_of_last (last : k = 25) :
    step u = .next (completeFrame (ops k).rA (ops k).rB (afterBit (bit k) (ops k) rest u)) := by
  have full : (afterBit (bit k) (ops k) rest u).bitCount = 26 := by
    refine BitVec.eq_of_toNat_eq ?_
    rw [(h.succ spaced hk small rest).count, last]
    rfl
  have notEighth : ¬ (u.config.keypadEnable = true ∧ u.keyBitCount = 7) := fun eighth => by
    rw [afterBit_bitCount] at full
    exact (h.eighth eighth).2 full
  rw [h.step_of_no_burst spaced hk small htrace notEighth, framePoint_of_due _ _ (frameDue_iff.mpr full), completeFrame]

end Step

/-! ### Runs -/

theorem run_succ_of_refused (k : Nat) {s : State} {r : Refusal} (first : step s = .refused r) :
    Host.Core.run Sys2Proof.core (k + 1) s = .refused r := by
  have first : Sys2Proof.core.step s = .refused r := first
  simp only [Host.Core.run, first]

/-- One step more, at the end of a run. -/
theorem run_succ_last (k : Nat) {s u : State} (run : Host.Core.run Sys2Proof.core k s = .next u) :
    Host.Core.run Sys2Proof.core (k + 1) s = step u := by
  induction k generalizing s with
  | zero =>
    cases run
    cases first : step u with
    | next t => exact run_succ_of_next 0 first
    | fault r => cases r
    | refused r => exact run_succ_of_refused 0 first
  | succ k ih =>
    cases first : step s with
    | next t =>
      rw [run_succ_of_next k first] at run
      rw [run_succ_of_next (k + 1) first, ih run]
    | fault r => cases r
    | refused r => cases (run_succ_of_refused k first).symm.trans run

/-- The requests that are left after `k` of `n` bits. -/
def bitsLeft (n : Nat) (bit : Nat → Bool) (ops : Nat → Inputs) (rest : List Request) (k : Nat) : List Request :=
  (bitTrace n bit ops).drop k ++ rest

theorem bitsLeft_of_lt {n k : Nat} (hk : k < n) (bit : Nat → Bool) (ops : Nat → Inputs) (rest : List Request) :
    bitsLeft n bit ops rest k = bitRequest (bit k) (ops k) :: bitsLeft n bit ops rest (k + 1) := by
  have length : (bitTrace n bit ops).length = n := by simp [bitTrace]
  rw [bitsLeft, List.drop_eq_getElem_cons (by omega), List.cons_append]
  simp [bitTrace, bitsLeft]

theorem bitsLeft_self (n : Nat) (bit : Nat → Bool) (ops : Nat → Inputs) (rest : List Request) :
    bitsLeft n bit ops rest n = rest := by
  rw [bitsLeft, List.drop_eq_nil_of_le (by simp [bitTrace]), List.nil_append]

section Run

variable {s : State} (h : Inv s) (empty : s.bitCount = 0) {bit : Nat → Bool} {ops : Nat → Inputs} {n : Nat}
  (spaced : Spaced n ops) {rest : List Request} (htrace : s.trace = bitTrace n bit ops ++ rest)
include h empty spaced htrace

/-- The steps of the bits of a frame, as long as none is the 26th and no burst selects an action. -/
theorem run_reading {k : Nat} (hk : k ≤ n) (notFull : k < 26)
    (ignored : s.config.keypadEnable = true → 8 ≤ k →
      ∀ g : Burst, (∀ j, j < 8 → g.getLsbD j = bit j) → ignoredValue (keyDecode g)) :
    ∃ u, Host.Core.run Sys2Proof.core k s = .next u ∧ Reading s bit ops k u ∧ u.trace = bitsLeft n bit ops rest k := by
  induction k with
  | zero => exact ⟨s, rfl, reading_zero h empty bit ops, htrace⟩
  | succ k ih =>
    obtain ⟨u, run, reading, left⟩ := ih (by omega) (by omega) fun keypad eight => ignored keypad (by omega)
    rw [bitsLeft_of_lt hk] at left
    have more := reading.succ spaced hk (by omega) (bitsLeft n bit ops rest (k + 1))
    refine ⟨_, ?_, more, afterBit_trace _ _ _ _⟩
    rw [run_succ_last k run]
    exact reading.step_of_more spaced hk (by omega) left (by omega) fun keypad seven =>
      ignored keypad (by omega) _ fun j hj => more.burst (by omega) hj

end Run

/-! ### The 26th bit and the eighth -/

section Read

variable {s w : State} {bit : Nat → Bool} {ops : Nat → Inputs} {k : Nat}

/-- The notification at the end of the cycle is judged as at the first bit: no bit touches the baseline (R123). -/
theorem Reading.report_eq (h : Reading s bit ops k w) (b : FlagsByte) : report w b = report s b := by
  rw [report, h.pending, h.snapshot, h.config, report]

/-- The output list of the operation that ends the cycle (R38). -/
theorem Reading.outputs_cycleEnd (h : Reading s bit ops k w) (started : k ≠ 0) (b : FlagsByte) (es : List Event) :
    (cycleEnd w b es).outputs = es ++ report s b := by
  have outputs : (cycleEnd w b es).outputs = w.outputs ++ es ++ report w b := rfl
  rw [outputs, h.unsent started, List.nil_append, h.report_eq]

/-- A card read: the end of the cycle after 26 bits (R65, R86). -/
theorem Reading.completeFrame_eq {f : FrameBits} (h : Reading s (frameBit f) ops 26 w) :
    completeFrame (ops 25).rA (ops 25).rB w =
      { cycleEnd w (s.flags ||| passFlags 26 f) (dataEvents s.config.byteReorder f) with
        accumulatedCode := if good f = true then 0 else w.accumulatedCode } := by
  have frame : w.frame = f := frame_ext fun j hj => by rw [h.position j hj, decide_eq_true hj, Bool.true_and]
  have count : w.bitCount = 26 := BitVec.eq_of_toNat_eq h.count
  rw [← h.operands 25 rfl, Machine.completeFrame_eq, h.flags, h.config, frame, count]

/-- After eight bits the burst is theirs (R44). -/
theorem Reading.burstBits_eq {f : Burst} (h : Reading s f.getLsbD ops 8 w) : burstBits w.frame = f :=
  BitVec.eq_of_getLsbD_eq fun _ hj => h.burst (Nat.le_refl 8) hj

/-- A digit keystroke (R104, R106). -/
theorem Reading.keyAction_digit (h : Reading s bit ops 8 w) {v : KeyValue} (digit : v.toNat ≤ 9) :
    keyAction v (ops 7).rA (ops 7).rB w =
      { cycleEnd w (s.flags ||| 0x02) [.digit (BitVec.ofNat 4 v.toNat)] with
        accumulatedCode := BitVec.ofNat 32 ((codeAfter s ops 8).toNat * 10 + v.toNat) } := by
  rw [← h.operands 7 rfl, keyAction_eq_afterDigit w digit, afterDigit, h.flags, h.code]

/-- A submit keystroke (R105, R106). -/
theorem Reading.keyAction_submit (h : Reading s bit ops 8 w) {v : KeyValue} (submit : v.toNat = 11) :
    keyAction v (ops 7).rA (ops 7).rB w =
      { cycleEnd w (submitFlags (codeAfter s ops 8) s.flags) (submitEvents (codeAfter s ops 8)) with
        accumulatedCode := 0 } := by
  obtain rfl : v = Config.submitValue := BitVec.eq_of_toNat_eq submit
  rw [← h.operands 7 rfl, keyAction_submit_eq, h.flags, h.code]

end Read

/-- Settles O48: 25 bits are read one by one, and the 26th completes the frame. -/
theorem twentySixBitsAreOneCardRead : Obligations.TwentySixBitsAreOneCardRead := by
  unfold Obligations.TwentySixBitsAreOneCardRead
  intro s f ops rest h empty spaced ignored htrace
  have noAction (keypad : s.config.keypadEnable = true) (g : Burst) (bits : ∀ j, j < 8 → g.getLsbD j = frameBit f j) :
      ignoredValue (keyDecode g) := by
    have same : g = burstBits f := BitVec.eq_of_getLsbD_eq fun j hj => by
      rw [bits j hj, getLsbD_burstBits, decide_eq_true hj, Bool.true_and]
    exact same ▸ ignored keypad
  constructor
  · intro k started notFull
    obtain ⟨u, run, reading, -⟩ :=
      run_reading h empty spaced htrace (by omega) notFull fun keypad _ => noAction keypad
    exact ⟨u, run, reading.unsent (by omega), reading.count⟩
  · obtain ⟨u, run, reading, left⟩ :=
      run_reading h empty spaced htrace (k := 25) (by decide) (by decide) fun keypad _ => noAction keypad
    rw [bitsLeft_of_lt (by decide), bitsLeft_self] at left
    have read := reading.succ spaced (by decide) (by decide) rest
    have taken := afterBit_trace (frameBit f 25) (ops 25) rest u
    have last := reading.step_of_last spaced (by decide) (by decide) left rfl
    rw [read.completeFrame_eq, ← run_succ_last 25 run] at last
    generalize afterBit (frameBit f 25) (ops 25) rest u = w at read taken last
    refine ⟨_, last, taken, read.outputs_cycleEnd (by decide) _ _, rfl, rfl, rfl, read.config, rfl, rfl, ?_, read.clock,
      fun isGood => if_pos isGood⟩
    rw [← read.operands 25 rfl]
    rfl

/-- Settles O49: seven bits are read one by one, and the eighth ends with the action of the value. -/
theorem eightBitsAreOneKeystroke : Obligations.EightBitsAreOneKeystroke := by
  unfold Obligations.EightBitsAreOneKeystroke
  intro s f ops rest h empty keypad spaced htrace
  obtain ⟨u, run, reading, left⟩ :=
    run_reading h empty spaced htrace (k := 7) (by decide) (by decide) fun _ eight => absurd eight (by decide)
  rw [bitsLeft_of_lt (by decide), bitsLeft_self] at left
  have read := reading.succ spaced (by decide) (by decide) rest
  have taken := afterBit_trace (f.getLsbD 7) (ops 7) rest u
  have eighth : u.config.keypadEnable = true ∧ u.keyBitCount = 7 := by
    have seven : u.bitCount = 7 := BitVec.eq_of_toNat_eq reading.count
    rw [reading.keyCount, reading.config, keypad, seven]
    exact ⟨rfl, rfl⟩
  have last := reading.step_of_burst spaced (by decide) (by decide) left eighth
  rw [read.burstBits_eq, ← run_succ_last 7 run] at last
  generalize afterBit (f.getLsbD 7) (ops 7) rest u = w at read taken last
  have chain := updates_keyAction (s := w) (by rw [read.config, keypad]) (keyDecode f) (ops 7).rA (ops 7).rB
  obtain ⟨-, -, -, kept⟩ := sameSetup_of_updates chain
  refine ⟨_, codeAfter s ops 8, last, kept.trans taken, rfl, fun digit => ?_, fun submit => ?_, fun ignored => ?_⟩
  · rw [read.keyAction_digit digit]
    exact ⟨rfl, rfl, rfl, read.outputs_cycleEnd (by decide) _ _⟩
  · rw [read.keyAction_submit submit]
    refine ⟨rfl, rfl, rfl, (read.outputs_cycleEnd (by decide) _ _).trans ?_⟩
    rw [submitEvents_eq, submitFlags_eq]
    split <;> rfl
  · have count : w.bitCount = 8 := BitVec.eq_of_toNat_eq read.count
    have keyCount : w.keyBitCount = 0 := by rw [read.keyCount, read.config, keypad, count]; rfl
    rw [keyAction_of_ignoredValue ignored]
    exact ⟨count, keyCount, read.burstBits_eq, read.code, read.flags, read.unsent (by decide)⟩

end Sys2Proof.Machine
end

section
/-!
# The first, the eighth and the last bit of a frame

A BIT that finds the frame silent ends the cycle as a TICK does and counts into an empty buffer. The eighth bit of a group runs
the KEY row of the burst, the 26th the emission pass and the end of the cycle; between the two a step fetches the row that is
due.
-/
namespace Sys2Proof.Machine

open Sys2Proof.Claims

/-! ### What a step fetches inside a BIT -/

/-- A due key burst is fetched first, with `KeyBitCount` back at 0 (R60 step 5). -/
theorem fetch_of_keyDue {s : State} (initialised : s.initialised = true) (due : keyDue s = true) :
    fetch s = some (decode (.key8 (burstBits s.frame).reverse), { s with keyBitCount := 0 }) := by
  rw [fetch, initialised, due]
  rfl

/-- A due card frame is fetched where no key burst is due (R60 step 6). -/
theorem fetch_of_frameDue {s : State} (initialised : s.initialised = true) (noBurst : keyDue s = false)
    (due : frameDue s = true) : fetch s = some (decode (.frame26 s.frame.reverse), s) := by
  rw [fetch, initialised, noBurst, due]
  rfl

/-- Settles O6: the three fetches that are not of a request. -/
theorem stepRunsTheDueDataEncoding : Obligations.StepRunsTheDueDataEncoding := by
  unfold Obligations.StepRunsTheDueDataEncoding
  intro s
  refine ⟨?_, ?_, fun between noRequest => ?_⟩
  · rintro i initialised due rfl
    rw [step, fetch_of_keyDue initialised due]
  · rintro i initialised noBurst due rfl
    rw [step, fetch_of_frameDue initialised noBurst due]
  · rw [step, fetch_of_no_request between noRequest]

/-! ### The time check of a TICK and of a BIT -/

/-- The time check where the frame-gap rule fires is the completion of the frame with ReceiveTimeout set (R73). -/
theorem timeCheck_of_expired {s : State} (rA rB : Bool) (expired : gapExpired (keyIdle s) = true) :
    timeCheck rA rB s = completeFrame rA rB (setFlag .receiveTimeout (keyIdle s)) :=
  frameGap_of_expired rA rB expired

/-- TICK measures the silence that BIT would (R70, R75). -/
theorem gapExpired_measureSilence_iff_silent (s : State) :
    gapExpired (keyIdle (measureSilence s.inputs.now s)) = true ↔ silent s := by
  rw [gapExpired_iff, keyIdle_eq]
  exact Iff.rfl

/-- A TICK outside a timeout (R72, R75). -/
theorem tickOperation_of_quiet {s : State} (quiet : ¬ silent s) (rA rB : Bool) :
    tickOperation s.inputs.now rA rB s = ticked s := by
  have unexpired := Bool.eq_false_iff.mpr fun expired => quiet ((gapExpired_measureSilence_iff_silent s).mp expired)
  rw [tickOperation, timeCheck, frameGap_of_quiet rA rB unexpired, keyIdle_eq]
  rfl

/-- A TICK that finds the frame silent judges the partial frame and ends the cycle (R73, R75, R86). -/
theorem tickOperation_of_silent {s : State} (silence : silent s) :
    tickOperation s.inputs.now s.inputs.rA s.inputs.rB s =
      { cycleEnd s (s.flags ||| 0x10 ||| passFlags s.bitCount s.frame) (dataEvents s.config.byteReorder s.frame) with
        elapsed := gap s
        accumulatedCode := if good s.frame = true then 0 else idledCode s } := by
  rw [tickOperation, timeCheck_of_expired _ _ ((gapExpired_measureSilence_iff_silent s).mpr silence), keyIdle_eq]
  exact completeFrame_eq (setFlag .receiveTimeout (ticked s))

/-- A BIT that finds the frame silent closes it as a TICK does, and stamps the time besides (R70, R77). -/
theorem timeCheck_timeStamp_of_silent {s : State} (silence : silent s) :
    timeCheck s.inputs.rA s.inputs.rB (timeStamp s.inputs.now s) =
      { tickOperation s.inputs.now s.inputs.rA s.inputs.rB s with lastTimestamp := s.inputs.now } := by
  rw [tickOperation_of_silent silence, timeCheck_of_expired _ _ ((gapExpired_iff_silent s).mpr silence), keyIdle_eq]
  exact completeFrame_eq (setFlag .receiveTimeout (stamped s))

/-! ### The bit that reveals a silence -/

/-- An ambiguous pair writes no slot, any other pair the slot `BitCount` (R62, R63). -/
theorem counted_frame (a b : Bool) (s : State) :
    (counted a b s).frame = if a = b then s.frame else setFrameBit s.frame s.bitCount.toNat b := by
  unfold counted
  split
  · rw [sample_of_eq ‹_›]; rfl
  · rw [sample_of_ne ‹_›]; rfl

/-- The first bit into an empty buffer (R62, R63, R64). -/
theorem counted_of_empty (a b : Bool) {s : State} (noFrame : s.frame = 0) (noBit : s.bitCount = 0)
    (noKeyBit : s.keyBitCount = 0) :
    counted a b s =
      { s with
        frame := if a ≠ b ∧ b = true then 1 else 0
        bitCount := 1
        keyBitCount := if s.config.keypadEnable = true then 1 else 0
        flags := sampledFlags a b s } := by
  have slot : ∀ a b : Bool, (if a = b then 0 else setFrameBit 0 0 b) = if a ≠ b ∧ b = true then 1 else 0 := by decide
  have frame : (counted a b s).frame = if a ≠ b ∧ b = true then 1 else 0 := by
    rw [counted_frame, noFrame, noBit]
    exact slot a b
  rw [counted_eq, frame, noBit, keyCounted, noKeyBit]
  rfl

/-- Where the time check has ended a cycle the bit is only sampled and counted: steps 5 and 6 are not due (R60, R77). -/
theorem bitEvent_of_silent (a b : Bool) {s : State} (silence : silent s) :
    bitEvent a b s =
      counted a b { tickOperation s.inputs.now s.inputs.rA s.inputs.rB s with lastTimestamp := s.inputs.now } := by
  rw [← timeCheck_timeStamp_of_silent silence, bitEvent, bitOperation_eq,
    timeCheck_of_expired _ _ ((gapExpired_iff_silent s).mpr silence), completeFrame, points_counted_resetProc]

/-- Settles O19: the TICK leaves an empty buffer, and the bit is the first one into it. -/
theorem bitAfterSilenceStartsANewFrame : Obligations.BitAfterSilenceStartsANewFrame := by
  unfold Obligations.BitAfterSilenceStartsANewFrame
  intro a b s u initialised silence tick
  obtain ⟨-, rfl⟩ := ready_eq_next.mp tick
  rw [exec_bitRow, ready_of_initialised _ initialised, bitEvent_of_silent a b silence, tickOperation_of_silent silence,
    counted_of_empty a b rfl rfl rfl]
  rfl

/-! ### The eighth bit of a group, and the 26th -/

/-- Steps 3 and 4 of a BIT outside a timeout: a sampled frame, the flags and the two counts (R62, R63, R64). -/
theorem counted_stamped_eq (a b : Bool) (s : State) :
    ∃ f, Sampled a b s f ∧ counted a b (stamped s) =
      { stamped s with
        frame := f
        flags := sampledFlags a b s
        bitCount := s.bitCount + 1
        keyBitCount := keyCounted s } :=
  ⟨_, sampled_counted a b (stamped s), counted_eq a b (stamped s)⟩

/-- Settles O20: step 6 is full-frame completion on the counted state. -/
theorem twentySixthBitJudgesTheFrame : Obligations.TwentySixthBitJudgesTheFrame := by
  unfold Obligations.TwentySixthBitJudgesTheFrame
  intro a b s initialised quiet last notEighth
  have due : frameDue (counted a b (stamped s)) = true := (frameDue_counted_iff a b (stamped s)).mpr last
  have full : s.bitCount + 1 = 26 := by rw [last]; rfl
  obtain ⟨f, sampled, counts⟩ := counted_stamped_eq a b s
  refine ⟨f, sampled, ?_⟩
  rw [exec_bitRow_of_not_eighth initialised quiet a b notEighth, framePoint_of_due _ _ due, counts, full]
  exact congrArg _ (completeFrame_eq
    { stamped s with frame := f, flags := sampledFlags a b s, bitCount := 26, keyBitCount := keyCounted s })

/-- A KEY row where the keypad is enabled is the action of its value (R45, R100). -/
theorem exec_keyRow {i : Instr} {v : KeyValue} (value : keyValueOf i = some v) {s : State}
    (initialised : s.initialised = true) (keypad : s.config.keypadEnable = true) :
    exec i s = .next (keyAction v s.inputs.rA s.inputs.rB s) := by
  rw [exec_of_keyValueOf value, ready_of_initialised _ initialised, receivedKey, if_pos keypad]

/-- The row of the burst `f` is the action of the value that `f` decodes to (R45, R100). -/
theorem keyValueOf_decode_burst (f : Burst) : keyValueOf (decode (.key8 f.reverse)) = some (keyDecode f) := by
  rw [keyValueOf_decode_key8, BitVec.reverse_reverse_eq]

/-- Settles O21: step 5 is the action of the burst's value, and so is the row; it completes no frame. -/
theorem eighthBitRunsTheKeyRow : Obligations.EighthBitRunsTheKeyRow := by
  unfold Obligations.EighthBitRunsTheKeyRow
  intro a b s initialised quiet notLast keypad seven
  have due : keyDue (counted a b (stamped s)) = true := (keyDue_counted_iff a b (stamped s)).mpr ⟨keypad, seven⟩
  have notFull : s.bitCount + 1 ≠ 26 := fun full => notLast (by bv_omega)
  obtain ⟨f, sampled, counts⟩ := counted_stamped_eq a b s
  refine ⟨f, sampled, ?_⟩
  rw [exec_bitRow_of_quiet initialised quiet, keyPoint_of_due _ _ _ due, counts,
    framePoint_of_not_due _ _ (frameDue_keyAction _ _ _ notFull)]
  exact (exec_keyRow (keyValueOf_decode_burst (burstBits f))
    (s := { stamped s with frame := f, flags := sampledFlags a b s, bitCount := s.bitCount + 1, keyBitCount := 0 })
    initialised keypad).symm

/-! ### Every bit -/

/-- Settles O23: once stamped, the time and the setup are kept by every update. -/
theorem everyBitEventCompletes : Obligations.EveryBitEventCompletes := by
  unfold Obligations.EveryBitEventCompletes
  intro a b s initialised
  have chain := updates_bitOperation keyDecode a b s.inputs.now s.inputs.rA s.inputs.rB s
  obtain ⟨last, silence⟩ := clock_of_updates chain
  have kept := sameSetup_of_updates chain
  exact ⟨bitEvent a b s, by rw [exec_bitRow, ready_of_initialised _ initialised], kept, last, silence⟩

end Sys2Proof.Machine
end

section
/-!
# Frames that survive their first eight bits

A key action ends the cycle or the burst selected none. So a frame that has passed its eighth bit with the keypad enabled holds
an ignored burst, and later bits do not touch the first eight positions.
-/
namespace Sys2Proof.Machine

open Sys2Proof.Claims

/-- With the keypad enabled, a frame of eight bits or more holds a burst that selects no action (C5). -/
def HoldsIgnoredBurst (s : State) : Prop :=
  s.config.keypadEnable = true → 8 ≤ s.bitCount → ignoredValue (keyDecode (burstBits s.frame))

/-- After the end of a cycle there is no frame to speak of (R124). -/
theorem holdsIgnoredBurst_resetProc (rA rB : Bool) (s : State) : HoldsIgnoredBurst (resetProc rA rB s) :=
  fun _ eight => absurd (show (8 : BitVec 5) ≤ 0 from eight) (by decide)

/-- A key value ends the cycle, or it is one that selects no action (R100, R106, R108). -/
theorem keyAction_resets_or_ignored (v : KeyValue) (rA rB : Bool) (s : State) :
    (∃ u, keyAction v rA rB s = resetProc rA rB u) ∨ (ignoredValue v ∧ keyAction v rA rB s = s) := by
  rcases keyAction_cases v rA rB s with ⟨-, digit⟩ | ⟨-, submit⟩ | ⟨noDigit, noSubmit, ignored⟩
  · exact .inl ⟨_, digit⟩
  · exact .inl ⟨_, submit⟩
  · have notSubmit : v.toNat ≠ 11 := fun value => noSubmit (BitVec.eq_of_toNat_eq value)
    exact .inr ⟨⟨Nat.not_le.mp fun digit => noDigit (BitVec.le_def.mpr digit), notSubmit⟩, ignored⟩

/-- A bit after the eighth leaves the burst as it is (R62). -/
theorem burstBits_counted (a b : Bool) {s : State} (eight : 8 ≤ s.bitCount.toNat) :
    burstBits (counted a b s).frame = burstBits s.frame := by
  refine BitVec.eq_of_getLsbD_eq fun j hj => ?_
  rw [getLsbD_burstBits, getLsbD_burstBits, frameBit_counted (by omega)]

/-- The eighth bit of a frame is the eighth of its first group (R23 (iii)). -/
theorem keyDue_counted_of_eighth (a b : Bool) {s : State} (h : Inv s) (keypad : s.config.keypadEnable = true)
    (seven : s.bitCount = 7) : keyDue (counted a b s) = true := by
  obtain ⟨-, -, -, hkey, -⟩ := (inv_iff s).mp h
  rw [keypad, seven] at hkey
  exact (keyDue_counted_iff a b s).mpr ⟨keypad, hkey⟩

/-- A bit that completes no group was not the eighth, and the frame held an ignored burst before it if it holds eight bits. -/
theorem holdsIgnoredBurst_counted (a b : Bool) {s : State} (h : Inv s) (holds : HoldsIgnoredBurst s)
    (noBurst : keyDue (counted a b s) = false) : HoldsIgnoredBurst (counted a b s) := by
  intro keypad eight
  rw [counted_config] at keypad
  rw [counted_bitCount] at eight
  obtain ⟨-, hcount, -⟩ := (inv_iff s).mp h
  have notEighth : s.bitCount ≠ 7 := fun seven =>
    Bool.eq_false_iff.mp noBurst (keyDue_counted_of_eighth a b h keypad seven)
  have passed : 8 ≤ s.bitCount := by bv_omega
  rw [burstBits_counted a b (BitVec.le_def.mp passed)]
  exact holds keypad passed

/-- Steps 3 to 6 of BIT (R60): a group's eighth bit that does not end the cycle has found the burst ignored. -/
theorem holdsIgnoredBurst_points (a b rA rB : Bool) {s : State} (h : Inv s) (holds : HoldsIgnoredBurst s) :
    HoldsIgnoredBurst (framePoint rA rB (keyPoint keyDecode rA rB (counted a b s))) := by
  cases due : keyDue (counted a b s)
  · rw [keyPoint_of_not_due keyDecode rA rB due]
    cases full : frameDue (counted a b s)
    · rw [framePoint_of_not_due rA rB full]
      exact holdsIgnoredBurst_counted a b h holds due
    · rw [framePoint_of_due rA rB full]
      exact holdsIgnoredBurst_resetProc rA rB _
  · have below := below_of_keyDue_counted h due
    have notFull : (counted a b s).bitCount ≠ 26 := by
      rw [counted_bitCount]
      bv_omega
    rw [keyPoint_of_due keyDecode rA rB due,
      framePoint_of_not_due rA rB (frameDue_keyAction (s := { counted a b s with keyBitCount := 0 }) _ rA rB notFull)]
    rcases keyAction_resets_or_ignored (keyDecode (burstBits (counted a b s).frame)) rA rB
      { counted a b s with keyBitCount := 0 } with ⟨u, ended⟩ | ⟨selectsNone, ignored⟩
    · rw [ended]
      exact holdsIgnoredBurst_resetProc rA rB u
    · rw [ignored]
      exact fun _ _ => selectsNone

/-- The time check drops the frame, or leaves it as it is (R71, R73). -/
theorem holdsIgnoredBurst_timeCheck (rA rB : Bool) {s : State} (holds : HoldsIgnoredBurst s) :
    HoldsIgnoredBurst (timeCheck rA rB s) := by
  rcases timeCheck_cases rA rB s with ⟨-, u, -, ended⟩ | quiet
  · rw [ended]
    exact holdsIgnoredBurst_resetProc rA rB u
  · rw [quiet, keyIdle_eq]
    exact holds

theorem holdsIgnoredBurst_receivedKey (v : KeyValue) {s : State} (holds : HoldsIgnoredBurst s) :
    HoldsIgnoredBurst (receivedKey v s) := by
  unfold receivedKey
  split
  · rcases keyAction_resets_or_ignored v s.inputs.rA s.inputs.rB s with ⟨u, ended⟩ | ⟨-, ignored⟩
    · rw [ended]
      exact holdsIgnoredBurst_resetProc _ _ u
    · rwa [ignored]
  · exact holds

/-- Every instruction keeps it. -/
theorem holdsIgnoredBurst_of_exec {i : Instr} {s t : State} (h : Inv s) (holds : HoldsIgnoredBurst s)
    (run : exec i s = .next t) : HoldsIgnoredBurst t := by
  cases does_of_exec run with
  | init => exact fun _ eight => absurd (show (8 : BitVec 5) ≤ 0 from eight) (by decide)
  | bit a b =>
    have stamped : Inv (timeStamp s.inputs.now s) := h
    exact holdsIgnoredBurst_points a b s.inputs.rA s.inputs.rB (inv_timeCheck _ _ stamped)
      (holdsIgnoredBurst_timeCheck (s := timeStamp s.inputs.now s) _ _ holds)
  | tick => exact holdsIgnoredBurst_timeCheck (s := measureSilence s.inputs.now s) s.inputs.rA s.inputs.rB holds
  | query => exact holds
  | reset => exact holdsIgnoredBurst_resetProc s.inputs.rA s.inputs.rB s
  | key => exact holdsIgnoredBurst_receivedKey _ holds
  | frame p d q => exact holdsIgnoredBurst_resetProc s.inputs.rA s.inputs.rB _

/-- Settles O40: a step runs one instruction of the trace, and every instruction ends the frame or keeps its burst ignored. -/
theorem survivingFramesHoldIgnoredBursts : Obligations.SurvivingFramesHoldIgnoredBursts := by
  unfold Obligations.SurvivingFramesHoldIgnoredBursts
  intro s t h run holds
  cases htrace : s.trace with
  | nil =>
    rw [step_of_no_request h htrace] at run
    cases run
    exact holds
  | cons r rest =>
    rw [step_of_request h htrace] at run
    exact holdsIgnoredBurst_of_exec (s := { s with trace := rest, inputs := r.inputs, outputs := [] }) h holds run

end Sys2Proof.Machine
end

section
/-!
# The KeyCodeFSM

The FSM's state is a function of AccumulatedCode (R107), so each transition is read off what an operation leaves there: one lemma
for the time check, one for an emission pass, one for a key value.
-/
namespace Sys2Proof.Machine

open Sys2Proof.Claims

/-- The FSM reads AccumulatedCode and nothing else (R107). -/
theorem keyFsm_congr {s t : State} (code : t.accumulatedCode = s.accumulatedCode) : keyFsm t = keyFsm s := by
  rw [keyFsm, code, keyFsm]

theorem keyFsm_of_no_code {s : State} (code : s.accumulatedCode = 0) : keyFsm s = .idle :=
  if_pos code

/-- A rule that may clear the code leads to Idle where it does, and keeps the state elsewhere. -/
theorem keyFsm_of_cleared_if {s t : State} {c : Prop} [Decidable c]
    (code : t.accumulatedCode = if c then 0 else s.accumulatedCode) : keyFsm t = if c then .idle else keyFsm s := by
  by_cases cleared : c
  · rw [if_pos cleared] at code ⊢
    exact keyFsm_of_no_code code
  · rw [if_neg cleared] at code ⊢
    exact keyFsm_congr code

/-! ### The time check -/

/-- After the key-idle rule (R72). -/
theorem keyFsm_ticked (s : State) : keyFsm (ticked s) = if (gap s).toNat > 5000 then .idle else keyFsm s :=
  keyFsm_of_cleared_if rfl

/-- The time check outside a frame-gap timeout is the key-idle rule (R72, R107). -/
theorem timedFsm_of_quiet {s : State} (quiet : ¬ silent s) : timedFsm s = keyFsm (ticked s) := by
  have noData : ¬ ((gap s).toNat > 20 ∧ s.bitCount ≠ 0 ∧ good s.frame = true) :=
    fun ⟨long, inProgress, _⟩ => quiet ⟨long, inProgress⟩
  rw [keyFsm_ticked, timedFsm]
  exact if_congr (or_iff_left noData) rfl rfl

/-- At a frame-gap timeout a good frame emits data and leads to Idle (R73, R93, R107). -/
theorem timedFsm_of_silent {s : State} (silence : silent s) :
    timedFsm s = if good s.frame = true then .idle else keyFsm (ticked s) := by
  obtain ⟨long, inProgress⟩ := silence
  rw [keyFsm_ticked, timedFsm]
  by_cases isGood : good s.frame = true
  · rw [if_pos isGood, if_pos (.inr ⟨long, inProgress, isGood⟩)]
  · rw [if_neg isGood]
    exact if_congr (or_iff_left fun ⟨_, _, data⟩ => isGood data) rfl rfl

/-- TICK (R75, R107). -/
theorem keyFsm_of_tick {s t : State} (tick : exec .tick s = .next t) : keyFsm t = timedFsm s := by
  obtain ⟨-, rfl⟩ := ready_eq_next.mp tick
  by_cases silence : silent s
  · rw [tickOperation_of_silent silence, timedFsm_of_silent silence]
    exact keyFsm_of_cleared_if (s := ticked s) rfl
  · rw [tickOperation_of_quiet silence, timedFsm_of_quiet silence]

/-! ### The key values -/

/-- A digit accumulates, unless the decimal step gives 0; a submit leads to Idle; any other value keeps the state (R104, R105,
R107, R108). -/
theorem keyFsm_keyAction (v : KeyValue) (s : State) :
    keyFsm (keyAction v s.inputs.rA s.inputs.rB s) = keyedFsm v (keyFsm s) s.accumulatedCode := by
  unfold keyedFsm
  by_cases digit : v.toNat ≤ 9
  · rw [if_pos digit, keyAction_eq_afterDigit s digit]
    rfl
  · rw [if_neg digit]
    by_cases submit : v.toNat = 11
    · obtain rfl : v = Config.submitValue := BitVec.eq_of_toNat_eq submit
      rw [if_pos submit, keyAction_submit_eq]
      exact keyFsm_of_no_code rfl
    · rw [if_neg submit, keyAction_of_ignoredValue ⟨Nat.not_le.mp digit, submit⟩]

/-- A KEY row is the transition of its value (R107). -/
theorem keyFsm_of_keyRow {i : Instr} {v : KeyValue} {s t : State} (keypad : s.config.keypadEnable = true)
    (value : keyValueOf i = some v) (run : exec i s = .next t) : keyFsm t = keyedFsm v (keyFsm s) s.accumulatedCode := by
  rw [exec_of_keyValueOf value] at run
  obtain ⟨-, rfl⟩ := ready_eq_next.mp run
  rw [receivedKey, if_pos keypad, keyFsm_keyAction]

theorem keyedFsm_of_ignoredValue {v : KeyValue} (ignored : ignoredValue v) (q : KeyFsm) (c : BitVec 32) :
    keyedFsm v q c = q := by
  obtain ⟨noDigit, noSubmit⟩ := ignored
  rw [keyedFsm, if_neg (Nat.not_le.mpr noDigit), if_neg noSubmit]

/-- A row whose value is ignored keeps the state (R107, R108). -/
theorem keyFsm_of_ignored_row {i : Instr} {v : KeyValue} {s t : State} (keypad : s.config.keypadEnable = true)
    (value : keyValueOf i = some v) (ignored : ignoredValue v) (run : exec i s = .next t) : keyFsm t = keyFsm s := by
  rw [keyFsm_of_keyRow keypad value run, keyedFsm_of_ignoredValue ignored]

/-- The rows of the digits have the digits' values (R45). -/
theorem keyValueOf_digitRow : ∀ d : Fin 10, keyValueOf (digitRow d) = some (BitVec.ofNat 8 d.val) := by
  decide

theorem keyFsm_of_digitRow {d : Fin 10} {s t : State} (keypad : s.config.keypadEnable = true)
    (run : exec (digitRow d) s = .next t) :
    keyFsm t = .idle ↔ BitVec.ofNat 32 (s.accumulatedCode.toNat * 10 + d.val) = 0 := by
  have value : (BitVec.ofNat 8 d.val).toNat = d.val := Nat.mod_eq_of_lt (by omega)
  rw [keyFsm_of_keyRow keypad (keyValueOf_digitRow d) run, keyedFsm, value, if_pos (by omega)]
  simp

/-! ### The other operations -/

/-- A card frame leads to Idle where it is good (R93, R107). -/
theorem keyFsm_of_frameRow {p : Bool} {d : BitVec 24} {q : Bool} {f : FrameBits} {s t : State} (holds : Holds p d q f)
    (run : exec (.frame26 p d q) s = .next t) : keyFsm t = if good f = true then .idle else keyFsm s := by
  obtain ⟨initialised, -⟩ := ready_eq_next.mp run
  rw [receivedFrameIsJudgedByItsParities p d q s f initialised holds] at run
  cases run
  exact keyFsm_of_cleared_if rfl

/-- RESET, QUERY and the ignored values keep the state (R107, R108). -/
theorem keyFsm_of_keeping_row {i : Instr} {s t : State} (keypad : s.config.keypadEnable = true)
    (keeping : i ∈ [Instr.reset, .query, .keyIgnored10, .keyIgnored12, .keyIgnored13, .keyIgnored14, .keyIgnored15])
    (run : exec i s = .next t) : keyFsm t = keyFsm s := by
  simp only [List.mem_cons, List.not_mem_nil, or_false] at keeping
  rcases keeping with rfl | rfl | ignored
  · obtain ⟨-, rfl⟩ := ready_eq_next.mp run
    rw [resetProc_eq]
    exact keyFsm_congr rfl
  · obtain ⟨-, rfl⟩ := ready_eq_next.mp run
    exact keyFsm_congr rfl
  · rcases ignored with rfl | rfl | rfl | rfl | rfl <;>
      exact keyFsm_of_ignored_row keypad rfl ⟨by decide, by decide⟩ run

/-! ### BIT -/

/-- A BIT: the time check, then the row that its eighth or its 26th bit runs (R60, R107). -/
theorem bitMovesFsm_of_keypad {s t : State} (keypad : s.config.keypadEnable = true) : BitMovesFsm s t := by
  intro a b run
  obtain ⟨initialised, -⟩ := ready_eq_next.mp ((exec_bitRow a b s).symm.trans run)
  refine ⟨fun silence => ?_, fun quiet notLast notEighth => ?_, fun quiet last notEighth => ?_,
    fun quiet notLast eighth => ?_⟩
  · obtain ⟨u, tick⟩ := exec_total (i := .tick) initialised ⟨nofun, nofun, nofun⟩
    cases (bitAfterSilenceStartsANewFrame a b s u initialised silence tick).symm.trans run
    rw [← keyFsm_of_tick tick]
    exact keyFsm_congr rfl
  · rw [exec_bitRow_of_not_due initialised quiet a b (.inr notEighth) notLast, counted_eq] at run
    cases run
    rw [timedFsm_of_quiet quiet]
    exact keyFsm_congr rfl
  · obtain ⟨f, sampled, judged⟩ := twentySixthBitJudgesTheFrame a b s initialised quiet last (.inr notEighth)
    refine ⟨f, sampled, ?_⟩
    cases judged.symm.trans run
    rw [timedFsm_of_quiet quiet]
    exact keyFsm_of_cleared_if rfl
  · obtain ⟨f, sampled, row⟩ := eighthBitRunsTheKeyRow a b s initialised quiet notLast keypad eighth
    refine ⟨f, sampled, ?_⟩
    rw [timedFsm_of_quiet quiet]
    exact keyFsm_of_keyRow
      (s := { stamped s with frame := f, flags := sampledFlags a b s, bitCount := s.bitCount + 1, keyBitCount := 0 })
      keypad (keyValueOf_decode_burst (burstBits f)) (row.symm.trans run)

/-- Settles O33: each row of R107's table by what its operation leaves in AccumulatedCode. -/
theorem keyFsmTransitions : Obligations.KeyFsmTransitions := by
  unfold Obligations.KeyFsmTransitions
  intro s t keypad
  refine ⟨fun d => keyFsm_of_digitRow keypad, fun run => ?_, fun p d q f => keyFsm_of_frameRow,
    fun i => keyFsm_of_keeping_row keypad, fun n1 n2 run => ?_, keyFsm_of_tick, bitMovesFsm_of_keypad keypad, fun run => ?_⟩
  · exact keyFsm_of_keyRow keypad rfl run
  · exact keyFsm_of_ignored_row (v := Config.keyNone) keypad rfl ⟨by decide, by decide⟩ run
  · cases run
    exact keyFsm_of_no_code rfl

end Sys2Proof.Machine
end

section
/-!
# TICK and the order of the two timeout rules

TICK is its operation once INIT has been performed, so its two statements are the two cases of the time check. The rules of the
time check commute because the one element that both write is AccumulatedCode, which both can only clear and neither reads.
-/
namespace Sys2Proof.Machine

open Sys2Proof.Claims

/-! ### TICK -/

/-- TICK once INIT has been performed (R75). -/
theorem exec_tick {s : State} (initialised : s.initialised = true) :
    exec .tick s = .next (tickOperation s.inputs.now s.inputs.rA s.inputs.rB s) :=
  ready_of_initialised _ initialised

/-- Selector 2 names TICK in all four of its spellings (R56). -/
theorem decodeCmd_of_selector_two : ∀ w : CmdWord, selectorOf w = 2 → decodeCmd w = .tick := by
  decide

/-- Settles O14: the frame-gap rule fires, and completes the partial frame with ReceiveTimeout set. -/
theorem tickClosesASilentFrame : Obligations.TickClosesASilentFrame := by
  unfold Obligations.TickClosesASilentFrame
  intro s initialised silence
  rw [exec_tick initialised, tickOperation_of_silent silence]

/-- Settles O13: the frame-gap rule does not fire, and the key-idle rule is all that is left of the time check. -/
theorem tickWithoutFrameGap : Obligations.TickWithoutFrameGap := by
  unfold Obligations.TickWithoutFrameGap
  refine ⟨decodeCmd_of_selector_two, fun s initialised quiet => ?_⟩
  rw [exec_tick initialised, tickOperation_of_quiet quiet]

/-! ### The key-idle rule commutes with all that the frame-gap rule does -/

/-- The frame-gap rule does not look at AccumulatedCode (R73). -/
theorem gapExpired_keyIdle (s : State) : gapExpired (keyIdle s) = gapExpired s := by
  rw [keyIdle_eq]
  rfl

theorem setFlag_keyIdle (f : Flag) (s : State) : setFlag f (keyIdle s) = keyIdle (setFlag f s) := by
  rw [keyIdle_eq, keyIdle_eq]
  rfl

/-- A code that both an idle keypad and a good frame may clear is the same whichever comes first (R72, R93). -/
theorem passCode_idleCode (f : FrameBits) (e : Millis) (acc : BitVec 32) :
    passCode f (idleCode e acc) = idleCode e (passCode f acc) := by
  unfold passCode idleCode
  by_cases isGood : paritiesGood f = true
  · rw [if_pos isGood, if_pos isGood, ite_self]
  · rw [if_neg isGood, if_neg isGood]

theorem emissionPass_keyIdle (s : State) : emissionPass (keyIdle s) = keyIdle (emissionPass s) := by
  simp only [keyIdle_eq, emissionPass_eq, passCode_idleCode]

theorem resetProc_keyIdle (rA rB : Bool) (s : State) : resetProc rA rB (keyIdle s) = keyIdle (resetProc rA rB s) := by
  rw [keyIdle_eq, keyIdle_eq, resetProc_eq, resetProc_eq]
  rfl

/-- Settles O15: the frame-gap rule fires in both orders or in neither, and each of its parts commutes with the key-idle rule. -/
theorem timeoutRulesCommute : Obligations.TimeoutRulesCommute := by
  unfold Obligations.TimeoutRulesCommute
  intro rA rB s
  cases expired : gapExpired s
  · rw [timeCheck, frameGap_of_quiet rA rB expired, frameGap_of_quiet rA rB ((gapExpired_keyIdle s).trans expired)]
  · rw [timeCheck, frameGap_of_expired rA rB expired,
      frameGap_of_expired rA rB ((gapExpired_keyIdle s).trans expired), setFlag_keyIdle, emissionPass_keyIdle,
      resetProc_keyIdle]

end Sys2Proof.Machine
end

section
/-!
# The flags and the event of an emission pass

Each check of the pass sets one flag, whatever the others find, and the gate opens iff neither parity check set its flag. So
what the pass found can be read off the flags it leaves, where they were clear before it.
-/
namespace Sys2Proof.Machine

/-- A flag set under a condition: that flag and no other (R8, R15). -/
theorem hasFlag_setFlagBit_if (f g : Flag) (c : Prop) [Decidable c] (b : FlagsByte) :
    hasFlag g (if c then setFlagBit f b else b) = true ↔ (g = f ∧ c) ∨ hasFlag g b = true := by
  by_cases h : c <;> simp [h]

/-- The gate is that neither parity check finds a fault (R83, R84, R85). -/
theorem paritiesGood_iff (f : FrameBits) :
    paritiesGood f = true ↔ ¬ firstHalfParity f = true ∧ ¬ secondHalfParity f = false := by
  simp [paritiesGood]

/-- A payload goes out exactly where the gate opens (R85). -/
theorem passData_ne_nil (swap : Bool) (f : FrameBits) : passData swap f ≠ [] ↔ paritiesGood f = true := by
  simp [passData]

/-- The flags after an emission pass, as in the outcome table of R86: one disjunct for each flag that it can set. -/
theorem hasFlag_emissionPass (g : Flag) (s : State) :
    hasFlag g (emissionPass s).flags = true ↔
      (g = .dataSent ∧ paritiesGood s.frame = true) ∨ (g = .paritySecondFault ∧ secondHalfParity s.frame = false) ∨
      (g = .parityFirstFault ∧ firstHalfParity s.frame = true) ∨ (g = .bitsFault ∧ s.bitCount ≠ 26) ∨
      hasFlag g s.flags = true := by
  rw [emissionPass_eq]
  dsimp only [passSets]
  rw [← ite_not (secondHalfParity s.frame = true)]
  simp only [hasFlag_setFlagBit_if, Bool.not_eq_true]

theorem outputs_emissionPass_ne (s : State) : (emissionPass s).outputs ≠ s.outputs ↔ paritiesGood s.frame = true := by
  rw [emissionPass_eq, ← passData_ne_nil s.config.byteReorder]
  exact not_congr List.append_right_eq_self

/-- Settles O27: DataSent and the payload event both say that the gate opened, and the gate is that neither parity check set
its flag. -/
theorem passEmitsIffNoParityFault : Obligations.PassEmitsIffNoParityFault := by
  unfold Obligations.PassEmitsIffNoParityFault
  intro s unsent noFirst noSecond
  have sent : hasFlag .dataSent (emissionPass s).flags = true ↔ paritiesGood s.frame = true := by
    simp [hasFlag_emissionPass, unsent]
  have first : hasFlag .parityFirstFault (emissionPass s).flags = true ↔ firstHalfParity s.frame = true := by
    simp [hasFlag_emissionPass, noFirst]
  have second : hasFlag .paritySecondFault (emissionPass s).flags = true ↔ secondHalfParity s.frame = false := by
    simp [hasFlag_emissionPass, noSecond]
  refine ⟨?_, sent.trans (outputs_emissionPass_ne s).symm, ?_⟩
  · rw [sent, paritiesGood_iff, ← first, ← second, Bool.not_eq_true, Bool.not_eq_true]
  · simp [hasFlag_emissionPass]

end Sys2Proof.Machine
end

section
/-!
# The aligner: extraction and byte reorder

The payload is the frame's middle read as a binary number. The byte reorder is one rule per byte of the result, which says bit by
bit where that byte comes from; that two swaps cancel is read off these rules.
-/
namespace Sys2Proof.Machine

open Sys2Proof.Claims

/-- Settles O25: the sum weighs the same bits that the extraction picks. -/
theorem payloadIsTheWeightedSum : Obligations.PayloadIsTheWeightedSum := by
  unfold Obligations.PayloadIsTheWeightedSum
  intro f
  refine ⟨payloadOf_toNat f, fun i hi => ?_⟩
  rw [getLsbD_payloadOf, decide_eq_true hi, Bool.true_and]

theorem reorder_false (v : Payload) : reorder false v = v := rfl

theorem reorder_true (v : Payload) :
    reorder true v = v.extractLsb' 0 8 ++ v.extractLsb' 8 8 ++ v.extractLsb' 16 8 := rfl

section Bytes

variable (v : Payload) {i : Nat}

/-- Result bits `[7:0]` are the input's `[23:16]` (R91). -/
theorem getLsbD_reorder_lowest (hi : i < 8) : (reorder true v).getLsbD i = v.getLsbD (i + 16) := by
  rw [reorder_true, BitVec.getLsbD_append, if_pos hi, BitVec.getLsbD_extractLsb', decide_eq_true hi, Bool.true_and,
    Nat.add_comm]

/-- Result bits `[15:8]` are the input's (R91). -/
theorem getLsbD_reorder_middle (hi : i < 8) : (reorder true v).getLsbD (i + 8) = v.getLsbD (i + 8) := by
  rw [reorder_true, BitVec.getLsbD_append, if_neg (by omega), Nat.add_sub_cancel, BitVec.getLsbD_append, if_pos hi,
    BitVec.getLsbD_extractLsb', decide_eq_true hi, Bool.true_and, Nat.add_comm]

/-- Result bits `[23:16]` are the input's `[7:0]` (R91). -/
theorem getLsbD_reorder_highest (hi : i < 8) : (reorder true v).getLsbD (i + 16) = v.getLsbD i := by
  rw [reorder_true, BitVec.getLsbD_append, if_neg (by omega), BitVec.getLsbD_append, if_neg (by omega), Nat.sub_sub,
    Nat.add_sub_cancel, BitVec.getLsbD_extractLsb', decide_eq_true hi, Bool.true_and, Nat.zero_add]

end Bytes

/-- The byte reorder is its own inverse (R91), byte by byte. -/
theorem reorder_true_involutive : Function.Involutive (reorder true) := by
  intro v
  refine BitVec.eq_of_getLsbD_eq fun j hj => ?_
  obtain ⟨i, hi, rfl | rfl | rfl⟩ : ∃ i < 8, j = i ∨ j = i + 8 ∨ j = i + 16 := ⟨j % 8, by omega, by omega⟩
  · rw [getLsbD_reorder_lowest _ hi, getLsbD_reorder_highest _ hi]
  · rw [getLsbD_reorder_middle _ hi, getLsbD_reorder_middle _ hi]
  · rw [getLsbD_reorder_highest _ hi, getLsbD_reorder_lowest _ hi]

/-- Settles O26: the three bytes one by one, and the inverse read off them. -/
theorem reorderSwapsOuterBytes : Obligations.ReorderSwapsOuterBytes := by
  unfold Obligations.ReorderSwapsOuterBytes
  exact fun v =>
    ⟨fun _ hi => ⟨getLsbD_reorder_lowest v hi, getLsbD_reorder_middle v hi, getLsbD_reorder_highest v hi⟩,
      reorder_true_involutive v, reorder_false v⟩

end Sys2Proof.Machine
end

section
/-!
# The rows of the keypad

A KEY row runs the action of its value, which the end of a cycle already states as one list of fields. A code that is entered
digit by digit is then a fold of `afterDigit` over the digits: what it leaves in AccumulatedCode and on the payload channels is
read off one digit and one submit.
-/
namespace Sys2Proof.Machine

open Sys2Proof.Claims

/-! ### One key -/

/-- Settles O28: the row runs the action of a digit value. -/
theorem digitExtendsTheCode : Obligations.DigitExtendsTheCode := by
  unfold Obligations.DigitExtendsTheCode
  intro d s initialised keypad
  have value : (BitVec.ofNat 8 d.val).toNat = d.val := Nat.mod_eq_of_lt (by omega)
  rw [exec_keyRow (keyValueOf_digitRow d) initialised keypad, keyAction_eq_afterDigit s (by omega), value]

/-- The state after a submit (R105, R106). -/
def afterSubmit (s : State) : State :=
  { cycleEnd s (submitFlags s.accumulatedCode s.flags) (submitEvents s.accumulatedCode) with accumulatedCode := 0 }

theorem exec_keySubmit {s : State} (initialised : s.initialised = true) (keypad : s.config.keypadEnable = true) :
    exec .keySubmit s = .next (afterSubmit s) := by
  rw [exec_keyRow rfl initialised keypad, keyAction_submit_eq, afterSubmit]

/-- Settles O29: the flags and the event of a submit, in range and out of it. -/
theorem submitDispatchesAndClears : Obligations.SubmitDispatchesAndClears := by
  unfold Obligations.SubmitDispatchesAndClears
  intro s initialised keypad
  rw [exec_keySubmit initialised keypad, afterSubmit, submitFlags_eq, submitEvents_eq, sends]
  constructor
  · intro inRange
    rw [if_pos inRange, if_pos inRange]
  · intro outOfRange
    rw [if_neg outOfRange, if_neg outOfRange]

/-- A row whose value selects no action changes nothing, with the keypad enabled or not (R108, R111). -/
theorem exec_of_ignored_row {i : Instr} {v : KeyValue} (value : keyValueOf i = some v) (ignored : ignoredValue v)
    {s : State} (initialised : s.initialised = true) : exec i s = .next s := by
  rw [exec_of_keyValueOf value, ready_of_initialised _ initialised, receivedKey, keyAction_of_ignoredValue ignored, ite_self]

/-- Settles O30: the values 10, 12, 13, 14, 15 and the sentinel are neither a digit nor the submit value. -/
theorem ignoredKeysChangeNothing : Obligations.IgnoredKeysChangeNothing := by
  unfold Obligations.IgnoredKeysChangeNothing
  intro s initialised
  have ignores {i : Instr} {v : KeyValue} (value : keyValueOf i = some v) (noDigit : v.toNat > 9) (noSubmit : v.toNat ≠ 11) :
      exec i s = .next s :=
    exec_of_ignored_row value ⟨noDigit, noSubmit⟩ initialised
  exact ⟨ignores rfl (by decide) (by decide), ignores rfl (by decide) (by decide), ignores rfl (by decide) (by decide),
    ignores rfl (by decide) (by decide), ignores rfl (by decide) (by decide),
    fun n1 n2 _ => ignores (v := Config.keyNone) rfl (by decide) (by decide)⟩

/-- Settles O32: the key step is the action of the decoded value. -/
theorem keyStepDependsOnTheDecodedValue : Obligations.KeyStepDependsOnTheDecodedValue := by
  unfold Obligations.KeyStepDependsOnTheDecodedValue
  intro k1 k2 rA rB s
  constructor
  · intro agree
    rw [keyStep, keyStep, agree]
  · intro ignored
    exact keyAction_of_ignoredValue ignored rA rB s

/-! ### What one key adds to the payload channels -/

/-- The payload events sent so far: the output list without the `State` events. -/
def payloads (s : State) : List Event :=
  s.outputs.filter isPayload

/-- The notification of a cycle's end is no payload event (R38). -/
theorem payloads_cycleEnd (s : State) (b : FlagsByte) (es : List Event) :
    payloads (cycleEnd s b es) = payloads s ++ es.filter isPayload := by
  have noPayload : (report s b).filter isPayload = [] := by
    unfold report
    split <;> rfl
  simp only [payloads, cycleEnd, List.filter_append, noPayload, List.append_nil]

theorem payloads_afterDigit (d : Nat) (s : State) : payloads (afterDigit d s) = payloads s ++ [.digit (BitVec.ofNat 4 d)] :=
  payloads_cycleEnd s _ _

theorem payloads_afterSubmit (s : State) : payloads (afterSubmit s) = payloads s ++ submitEvents s.accumulatedCode := by
  have allPayload : (submitEvents s.accumulatedCode).filter isPayload = submitEvents s.accumulatedCode := by
    unfold submitEvents
    split <;> rfl
  exact (payloads_cycleEnd s _ _).trans (congrArg _ allPayload)

/-! ### A code digit by digit -/

/-- The state after a sequence of digits (R104). -/
def afterDigits (ds : List (Fin 10)) (s : State) : State :=
  ds.foldl (fun u d => afterDigit d.val u) s

theorem execAll_cons_of_next {i : Instr} {s t : State} (run : exec i s = .next t) (rest : List Instr) :
    execAll (i :: rest) s = execAll rest t := by
  rw [execAll, run]

/-- Digits run one after another, and the rest runs from the state they leave. -/
theorem execAll_digits (ds : List (Fin 10)) (rest : List Instr) {s : State} (initialised : s.initialised = true)
    (keypad : s.config.keypadEnable = true) :
    execAll (ds.map digitRow ++ rest) s = execAll rest (afterDigits ds s) := by
  induction ds generalizing s with
  | nil => rfl
  | cons d ds ih =>
    rw [List.map_cons, List.cons_append, execAll_cons_of_next (digitExtendsTheCode d s initialised keypad)]
    exact ih initialised keypad

/-- Digits leave the marker of INIT and the configuration alone (R20). -/
theorem setup_afterDigits (ds : List (Fin 10)) (s : State) :
    (afterDigits ds s).initialised = s.initialised ∧ (afterDigits ds s).config = s.config := by
  induction ds generalizing s with
  | nil => exact ⟨rfl, rfl⟩
  | cons d ds ih => exact ih (afterDigit d.val s)

/-- The decimal step may be taken before the reduction modulo 2^32 or after it (R104). -/
theorem ofNat_decimalStep (n d : Nat) :
    BitVec.ofNat 32 ((BitVec.ofNat 32 n).toNat * 10 + d) = BitVec.ofNat 32 (n * 10 + d) := by
  apply BitVec.eq_of_toNat_eq
  simp only [BitVec.toNat_ofNat]
  omega

/-- AccumulatedCode is the decimal number that the digits spell, modulo 2^32 (R104). -/
theorem accumulatedCode_afterDigits (ds : List (Fin 10)) {n : Nat} {s : State} (code : s.accumulatedCode = BitVec.ofNat 32 n) :
    (afterDigits ds s).accumulatedCode = BitVec.ofNat 32 (decimal n ds) := by
  induction ds generalizing n s with
  | nil => exact code
  | cons d ds ih =>
    have stepped : (afterDigit d.val s).accumulatedCode = BitVec.ofNat 32 (n * 10 + d.val) := by
      rw [← ofNat_decimalStep, ← code, afterDigit]
    exact ih stepped

/-- Each digit goes out, in order (R104). -/
theorem payloads_afterDigits (ds : List (Fin 10)) (s : State) :
    payloads (afterDigits ds s) = payloads s ++ ds.map fun d => .digit (BitVec.ofNat 4 d.val) := by
  induction ds generalizing s with
  | nil => exact (List.append_nil _).symm
  | cons d ds ih =>
    calc payloads (afterDigits ds (afterDigit d.val s))
      _ = payloads (afterDigit d.val s) ++ ds.map fun d => .digit (BitVec.ofNat 4 d.val) := ih _
      _ = payloads s ++ (d :: ds).map fun d => .digit (BitVec.ofNat 4 d.val) := by
        rw [payloads_afterDigit, List.append_assoc, List.singleton_append, List.map_cons]

/-- Settles O34, by the induction over the digits in each of the lemmas above and one submit. -/
theorem enteredDigitsAreSubmittedAsDecimal : Obligations.EnteredDigitsAreSubmittedAsDecimal := by
  unfold Obligations.EnteredDigitsAreSubmittedAsDecimal
  intro ds s initialised keypad empty
  obtain ⟨marked, sameConfig⟩ := setup_afterDigits ds s
  have entered : execAll (ds.map digitRow) s = .next (afterDigits ds s) := by
    rw [← List.append_nil (ds.map digitRow), execAll_digits ds [] initialised keypad, execAll]
  have code : (afterDigits ds s).accumulatedCode = BitVec.ofNat 32 (decimal 0 ds) := accumulatedCode_afterDigits ds empty
  have submitted : execAll (ds.map digitRow ++ [.keySubmit]) s = .next (afterSubmit (afterDigits ds s)) := by
    rw [execAll_digits ds _ initialised keypad,
      execAll_cons_of_next (exec_keySubmit (marked.trans initialised) (by rw [sameConfig, keypad])), execAll]
  refine ⟨afterDigits ds s, afterSubmit (afterDigits ds s), _, entered, rfl, code, submitted, rfl, ?_⟩
  rw [← submitEvents_eq, ← code, ← payloads, ← payloads, payloads_afterSubmit, payloads_afterDigits]

end Sys2Proof.Machine
end

section
/-!
# QUERY and RESET

Once INIT has been performed the two rows are a bare emission and a bare reset procedure. The emission writes the output list and
nothing else; the reset procedure is the end of a cycle on the flags gathered so far, with no payload event.
-/
namespace Sys2Proof.Machine

open Sys2Proof.Claims

/-! ### QUERY -/

/-- Selector 3 names QUERY in all four of its spellings (R56). -/
theorem decodeCmd_of_selector_three : ∀ w : CmdWord, selectorOf w = 3 → decodeCmd w = .query := by
  decide

/-- QUERY once INIT has been performed (R127). -/
theorem exec_query {s : State} (initialised : s.initialised = true) :
    exec .query s = .next (emit (.state s.flags) s) :=
  ready_of_initialised _ initialised

/-- Settles O11: the row is one emission, which appends its event and writes no element. -/
theorem queryEmitsFlagsAndChangesNothing : Obligations.QueryEmitsFlagsAndChangesNothing := by
  unfold Obligations.QueryEmitsFlagsAndChangesNothing
  refine ⟨decodeCmd_of_selector_three, fun s initialised => ?_⟩
  rw [exec_query initialised, emit]

/-! ### RESET -/

/-- Selector 4 names RESET in all four of its spellings (R56). -/
theorem decodeCmd_of_selector_four : ∀ w : CmdWord, selectorOf w = 4 → decodeCmd w = .reset := by
  decide

/-- RESET once INIT has been performed (R126). -/
theorem exec_reset {s : State} (initialised : s.initialised = true) :
    exec .reset s = .next (resetProc s.inputs.rA s.inputs.rB s) :=
  ready_of_initialised _ initialised

/-- Settles O12: the row is the reset procedure, with no emission pass before it to add a flag or a payload event. -/
theorem resetEndsTheCycleUnjudged : Obligations.ResetEndsTheCycleUnjudged := by
  unfold Obligations.ResetEndsTheCycleUnjudged
  refine ⟨decodeCmd_of_selector_four, fun s initialised => ?_⟩
  rw [exec_reset initialised, resetProc_eq_cycleEnd]

end Sys2Proof.Machine
end

section
/-!
# INIT and the state before it

INIT is the one row with a meaning in every state: what it writes does not depend on what stood there, the side operands apart.
Every other row that names an operation asks whether INIT has been performed before it does anything.
-/
namespace Sys2Proof.Machine

/-! ### INIT -/

/-- Selector 0 names INIT in all four of its spellings (R56). -/
theorem decodeCmd_of_selector_zero : ∀ w : CmdWord, selectorOf w = 0 → decodeCmd w = .init := by
  decide

/-- INIT asks for no earlier INIT (R160). -/
theorem exec_init (s : State) : exec .init s = .next (initOperation s.inputs.cfg s.inputs.rA s.inputs.rB s) :=
  rfl

/-- The byte a reset step leaves, by whether both lines are high (R124). -/
theorem freshFlags_eq_of_levels (rA rB : Bool) : freshFlags rA rB = if rA = true ∧ rB = true then 0x05 else 0x01 := by
  simp only [freshFlags_eq, Bool.and_eq_true]

/-- Settles O7: the reset step inside INIT overwrites the frame, the counts and the flags, INIT itself the other elements, and
nothing is emitted. -/
theorem initWritesEveryElement : Obligations.InitWritesEveryElement := by
  unfold Obligations.InitWritesEveryElement
  refine ⟨decodeCmd_of_selector_zero, fun s => ?_⟩
  rw [exec_init, initOperation, resetStep, freshFlags_eq_of_levels, configOf]

/-! ### Before INIT -/

/-- Every row but INIT and the reserved selectors is an operation that waits for INIT (R162). -/
theorem exec_eq_ready {i : Instr} (notInit : i ≠ .init) (named : i ≠ .reserved5 ∧ i ≠ .reserved6 ∧ i ≠ .reserved7) :
    ∃ f, ∀ s, exec i s = ready f s := by
  obtain ⟨named5, named6, named7⟩ := named
  cases i with
  | init => exact absurd rfl notInit
  | reserved5 => exact absurd rfl named5
  | reserved6 => exact absurd rfl named6
  | reserved7 => exact absurd rfl named7
  | bit0 => exact ⟨_, exec_bitRow true false⟩
  | bit1 => exact ⟨_, exec_bitRow false true⟩
  | bitBoth => exact ⟨_, exec_bitRow true true⟩
  | bitNone => exact ⟨_, exec_bitRow false false⟩
  | tick | query | reset | frame26 => exact ⟨_, fun _ => rfl⟩
  | _ => exact ⟨_, exec_of_keyValueOf rfl⟩

/-- Settles O9: a row that waits for INIT is refused where INIT has not been performed. -/
theorem nothingButInitRunsBeforeInit : Obligations.NothingButInitRunsBeforeInit := by
  unfold Obligations.NothingButInitRunsBeforeInit
  intro i s before notInit named5 named6 named7
  obtain ⟨f, waits⟩ := exec_eq_ready notInit ⟨named5, named6, named7⟩
  rw [waits, ready_of_not_initialised f before]

end Sys2Proof.Machine
end

section
/-!
# The reset state, and the two ambiguous line pairs

The reset state is one value of what INIT leaves, so it is read off the elements that INIT writes. The two ambiguous pairs are told
apart by nothing: a BIT looks at its line pair in the sampling step alone, and there an ambiguous pair sets LogicFault whichever
pair it is.
-/
namespace Sys2Proof.Machine

/-! ### The reset state -/

/-- Settles O8: the elements that INIT writes, with the configuration and the levels put in for those of the inputs. -/
theorem resetStateIsTheStateAfterInit : Obligations.ResetStateIsTheStateAfterInit := by
  unfold Obligations.ResetStateIsTheStateAfterInit
  intro s noConfig highA highB
  obtain ⟨-, written⟩ := initWritesEveryElement
  rw [written s, noConfig, highA, highB]
  rfl

/-! ### The ambiguous line pairs -/

/-- The sampling of an ambiguous pair does not depend on which one it is (R63). -/
theorem sample_ambiguous_congr (a b : Bool) (s : State) : sample a a s = sample b b s :=
  (sample_of_eq rfl).trans (sample_of_eq rfl).symm

/-- Nor does the BIT operation, whose other five steps do not read the line pair (R60). -/
theorem bitEvent_ambiguous_congr (a b : Bool) (s : State) : bitEvent a a s = bitEvent b b s := by
  rw [bitEvent, bitEvent, bitOperation, bitOperation, sample_ambiguous_congr a b]

/-- Settles O18: BIT.BOTH and BIT.NONE are the rows of the two ambiguous pairs, before INIT and after it. -/
theorem ambiguousPairsBehaveIdentically : Obligations.AmbiguousPairsBehaveIdentically := by
  unfold Obligations.AmbiguousPairsBehaveIdentically
  intro s
  calc exec .bitBoth s = ready (bitEvent true true) s := exec_bitRow true true s
    _ = ready (bitEvent false false) s := by rw [funext (bitEvent_ambiguous_congr true false)]
    _ = exec .bitNone s := (exec_bitRow false false s).symm

end Sys2Proof.Machine
end
